-- ==== Sys2Proof/Word.lean ====
section
/-! DEFINITION. The word types of the hauntcontrol protocol block (spec/00_scope.md R9, R10). -/

namespace Sys2Proof

/-- One byte of a stream: 8 bits (R10, R76). -/
abbrev Byte := BitVec 8

/-- A 16-bit field: the parameter, the checksum, a count or a device code (R9). -/
abbrev Half := BitVec 16

/-- A word on the `op` port: 32 bits (R109). -/
abbrev OpWord := BitVec 32

end Sys2Proof
end

