-- ==== Sys2Proof/Syntax.lean ====
section
/-! DEFINITION. The syntax of the block: message kinds, devices, the instructions (one constructor for each row of
spec/opcode_table.json) and what the host can present on the input ports. -/

namespace Sys2Proof

/-- The 37 symbolic message kinds (spec/44_message_kinds.md R300). A query's symbol also names its reply. -/
inductive Kind where
  -- commands, R310 to R325
  | next | previous | volume | equalizer | loop | selectSource
  | sleep | wake | reset | play | pause | playFromFolder
  | playFromBigFolder | stop | random | dacEnable
  -- notifications and basic replies, R330 to R337
  | deviceInserted | deviceRemoved | finishedUsb | finishedSd | finishedFlash | initComplete
  | error | ack
  -- queries and their replies, R340 to R352
  | qStatus | qVolume | qEqualizer | qSequence | qFirmwareVersion | qFileCountUsb
  | qFileCountSd | qFileCountFlash | qCurrentFileUsb | qCurrentFileSd | qCurrentFileFlash | qFolderTrackCount
  | qFolderCount
deriving DecidableEq, Repr

/-- The devices of R301, whose codes are the select-source parameter and SEL_DEVICE. -/
inductive Device where
  | usb | sd | aux | sleep | flash
deriving DecidableEq, Repr

/-- How a frame ends after its parameter: a short frame ends at once (R101), a full frame carries a 16-bit
checksum, right or wrong (R100). -/
inductive FrameTail where
  | short
  | full (chk : Half)
deriving DecidableEq, Repr

/-- The instructions, one constructor for each row of spec/opcode_table.json: the five port operations (R12, R110),
and for each message kind the frame of that kind arriving from the module, with its feedback byte, its parameter
and its tail (R100, R101; log 1). -/
inductive Instr where
  | por
  | feed (rxByte : Byte)
  | send (fb : Bool) (kind : Byte) (param : Half)
  | tick
  | reset
  | msgNext (fb : Byte) (param : Half) (tail : FrameTail)
  | msgPrevious (fb : Byte) (param : Half) (tail : FrameTail)
  | msgVolume (fb : Byte) (param : Half) (tail : FrameTail)
  | msgEqualizer (fb : Byte) (param : Half) (tail : FrameTail)
  | msgLoop (fb : Byte) (param : Half) (tail : FrameTail)
  | msgSelectSource (fb : Byte) (param : Half) (tail : FrameTail)
  | msgSleep (fb : Byte) (param : Half) (tail : FrameTail)
  | msgWake (fb : Byte) (param : Half) (tail : FrameTail)
  | msgReset (fb : Byte) (param : Half) (tail : FrameTail)
  | msgPlay (fb : Byte) (param : Half) (tail : FrameTail)
  | msgPause (fb : Byte) (param : Half) (tail : FrameTail)
  | msgPlayFromFolder (fb : Byte) (param : Half) (tail : FrameTail)
  | msgPlayFromBigFolder (fb : Byte) (param : Half) (tail : FrameTail)
  | msgStop (fb : Byte) (param : Half) (tail : FrameTail)
  | msgRandom (fb : Byte) (param : Half) (tail : FrameTail)
  | msgDacEnable (fb : Byte) (param : Half) (tail : FrameTail)
  | msgDeviceInserted (fb : Byte) (param : Half) (tail : FrameTail)
  | msgDeviceRemoved (fb : Byte) (param : Half) (tail : FrameTail)
  | msgFinishedUsb (fb : Byte) (param : Half) (tail : FrameTail)
  | msgFinishedSd (fb : Byte) (param : Half) (tail : FrameTail)
  | msgFinishedFlash (fb : Byte) (param : Half) (tail : FrameTail)
  | msgInitComplete (fb : Byte) (param : Half) (tail : FrameTail)
  | msgError (fb : Byte) (param : Half) (tail : FrameTail)
  | msgAck (fb : Byte) (param : Half) (tail : FrameTail)
  | msgQStatus (fb : Byte) (param : Half) (tail : FrameTail)
  | msgQVolume (fb : Byte) (param : Half) (tail : FrameTail)
  | msgQEqualizer (fb : Byte) (param : Half) (tail : FrameTail)
  | msgQSequence (fb : Byte) (param : Half) (tail : FrameTail)
  | msgQFirmwareVersion (fb : Byte) (param : Half) (tail : FrameTail)
  | msgQFileCountUsb (fb : Byte) (param : Half) (tail : FrameTail)
  | msgQFileCountSd (fb : Byte) (param : Half) (tail : FrameTail)
  | msgQFileCountFlash (fb : Byte) (param : Half) (tail : FrameTail)
  | msgQCurrentFileUsb (fb : Byte) (param : Half) (tail : FrameTail)
  | msgQCurrentFileSd (fb : Byte) (param : Half) (tail : FrameTail)
  | msgQCurrentFileFlash (fb : Byte) (param : Half) (tail : FrameTail)
  | msgQFolderTrackCount (fb : Byte) (param : Half) (tail : FrameTail)
  | msgQFolderCount (fb : Byte) (param : Half) (tail : FrameTail)
deriving DecidableEq, Repr

/-- What the host presents for one step (R48): a word on the `op` port, or a burst of bytes from the transport, which
is a FEED for each byte, all at one `now` (R112 FEEDS). -/
inductive PortInput where
  | op (w : OpWord)
  | rx (bytes : List Byte)
deriving DecidableEq, Repr

/-- An input with the value the `now` port carries for it (R48, R49), a time in milliseconds (TIME_UNIT)
of which the block samples CLK_W bits: CLK_W is a parameter (R7), so a time is the number its bits stand for (log 5). -/
structure PortOp where
  now : Nat
  input : PortInput
deriving DecidableEq, Repr

end Sys2Proof
end

