-- ==== Sys2Proof/Machine/State.lean ====
section
/-! DEFINITION. The state of the block as plain data: the tuple of spec/10_state.md R30 and the model's own port fields
(R45, R48), the types they are made of, why a step can stop, and the state after reset. -/

namespace Sys2Proof.Machine

/-- RX_CUR (R33): the frame offset at which the next received byte is matched or stored. 4 bits holding 0 to 9; the
values 10 to 15, never written, are not representable (log 7). -/
inductive RxCursor where
  | at0 | at1 | at2 | at3 | at4 | at5 | at6 | at7 | at8 | at9
deriving DecidableEq, Repr

/-- RX_BUF[3..8] (R34): one cell for each frame offset that is stored. -/
structure RxBuf where
  /-- RX_BUF[3] -/
  kind : Byte
  /-- RX_BUF[4] -/
  fb : Byte
  /-- RX_BUF[5] -/
  paramHi : Byte
  /-- RX_BUF[6] -/
  paramLo : Byte
  /-- RX_BUF[7] -/
  chkHi : Byte
  /-- RX_BUF[8] -/
  chkLo : Byte
deriving DecidableEq, Repr

/-- FSM_STATE (R38): the active bring-up state; `none` is "no active state". -/
inductive FsmState where
  | none
  | resettingHardware
  | gettingVersion
  | checkingUsbFileCount
  | checkingSdFileCount
  | selectingUsb
  | selectingSd
  | checkingFolderCount
deriving DecidableEq, Repr

/-- RESULT (R39): the outcome of the most recent bring-up. Values 5 to 7, never written, are not representable. -/
inductive BringupResult where
  | notStarted | inProgress | ready | noSource | failed
deriving DecidableEq, Repr

/-- `Result` of R211: the three ways bring-up ends (R253). -/
inductive EndResult where
  | ready | noSource | failed
deriving DecidableEq, Repr

/-- `Dev3` of R211: the devices of the inserted and removed masks. -/
inductive Dev3 where
  | usb | sd | aux
deriving DecidableEq, Repr

/-- `DevF` of R211: the devices that hold files. -/
inductive DevF where
  | usb | sd | flash
deriving DecidableEq, Repr

/-- `ErrCode` of R211: a code from the wire, or the synthetic TIMED-OUT, which no wire code equals. -/
inductive ErrCode where
  | wireCode (n : Half)
  | timedOut
deriving DecidableEq, Repr

/-- `Notification` of R211: an entry of SINK_LOG. -/
inductive Notification where
  | invalid (kind fb : Byte) (param chk : Half)
  | ack
  | deviceInserted (d : Dev3)
  | deviceRemoved (d : Dev3)
  | fileFinished (d : DevF) (index : Half)
  | initComplete (usb sd aux flash : Bool)
  | error (code : ErrCode)
  | status (deviceByte stateByte : Byte)
  | volume (v : Half)
  | equalizer (v : Half)
  | sequence (v : Half)
  | firmwareVersion (v : Half)
  | fileCount (d : DevF) (n : Half)
  | currentFile (d : DevF) (n : Half)
  | folderTrackCount (n : Half)
  | folderCount (n : Half)
  | bringupEnd (r : EndResult)
deriving DecidableEq, Repr

/-- The step outputs of one operation (R45): a FEED returns frame_done and frame_ok, a TICK returns timed_out. -/
inductive StepOutput where
  | feed (frameDone frameOk : Bool)
  | tick (timedOut : Bool)
deriving DecidableEq, Repr

/-- Why a step faults: no reason exists. No operation of the block faults (R400, R414; log 15). -/
inductive Fault : Type
deriving DecidableEq, Repr

/-- Why a step is refused. -/
inductive Refusal where
  /-- Raised only by an arm of `exec` whose instruction has no meaning yet; no arm is left so. Safe: the run stops. -/
  | notModelled (mnemonic : String)
  /-- Raised by `step` on an operation word whose opc is 5 to 15 (R110, R401(e)). Safe: the run stops where the block
  would stay unchanged (log 8). -/
  | reservedOpc
  /-- Raised by `step` on an operation word with a nonzero must-be-0 bit (R110, R401(e)). Safe, as above (log 8). -/
  | mustBeZero
deriving DecidableEq, Repr

/-- The state: the eleven elements of R30, then the model's own view of the ports (R48; log 2, log 4). -/
structure State where
  /-- RX_CUR (R33) -/
  rxCur : RxCursor
  /-- RX_BUF (R34) -/
  rxBuf : RxBuf
  /-- TMR_ARMED (R36) -/
  tmrArmed : Bool
  /-- TMR_DEADLINE (R37): the number its CLK_W bits stand for; every write is mod 2^CLK_W (R7; log 5) -/
  tmrDeadline : Nat
  /-- FSM_STATE (R38) -/
  fsmState : FsmState
  /-- RESULT (R39) -/
  result : BringupResult
  /-- SEL_DEVICE (R40) -/
  selDevice : Half
  /-- FILE_COUNT (R41) -/
  fileCount : Half
  /-- FOLDER_COUNT (R42) -/
  folderCount : Half
  /-- TX_LOG (R43), oldest byte first -/
  txLog : List Byte
  /-- SINK_LOG (R44), oldest notification first -/
  sinkLog : List Notification
  /-- The `now` port: the value sampled by the operation being performed (R49), the number its CLK_W
  bits stand for (R7; log 5). Not state of the block. -/
  now : Nat
  /-- What the host has presented and the block has not performed, oldest first (R80). Not state of the block. -/
  pending : List PortOp
  /-- The step outputs of the last instruction, in order (R45). Not state of the block. -/
  stepOut : List StepOutput
deriving DecidableEq, Repr

/-- The state after power-on reset (R440), with nothing presented on the ports (log 2, log 14). -/
def State.reset : State where
  rxCur := .at0
  rxBuf := ⟨0, 0, 0, 0, 0, 0⟩
  tmrArmed := false
  tmrDeadline := 0
  fsmState := .none
  result := .notStarted
  selDevice := 0
  fileCount := 0
  folderCount := 0
  txLog := []
  sinkLog := []
  now := 0
  pending := []
  stepOut := []

end Sys2Proof.Machine
end

