-- ==== Sys2Proof/Machine/Flags.lean ====
section
/-! DEFINITION. The block has no condition codes (R45). What takes their place are the step outputs frame_done, frame_ok
and timed_out, which the model keeps on the output port field `stepOut` for the instruction that returned them (log 4). -/

namespace Sys2Proof.Machine

/-- The start of an instruction: the step outputs of the one before are gone (R45: they are not stored). -/
def State.clearOut (s : State) : State := { s with stepOut := [] }

/-- An operation of the instruction returns its step outputs (R45). -/
def State.pushOut (o : StepOutput) (s : State) : State := { s with stepOut := s.stepOut ++ [o] }

end Sys2Proof.Machine
end

