-- ==== Sys2Proof/Config.lean ====
section
/-! DEFINITION. The implementation parameters of spec/00_scope.md R7, as a structure that every shared operation takes
as an argument. The values of this hardware are `Machine.hardware` (Machine/Params.lean). The configuration is fixed and
is no part of the state (R30). -/

namespace Sys2Proof

/-- CHK_SPAN: the frame offsets the checksum sums (R103, D27): the normative {3,4,5,6}, or the alternative
{1,...,6} (log 18). -/
inductive ChkSpan where
  | payload
  | headerAndPayload
deriving DecidableEq, Repr

/-- DISARM_POINT: whether an expiry disarms before or after the synthetic event is dispatched (R186, D4). -/
inductive DisarmPoint where
  | beforeDispatch
  | afterDispatch
deriving DecidableEq, Repr

/-- The parameters of R7. `clkW` is CLK_W, `kind` is KIND, `device` is DEVICE, `replyKinds` is REPLY_KINDS. TIME_UNIT is
no number the block computes with: it is the unit, a millisecond, of `now`, `tDefault` and `tReset` alike (log 5). -/
structure Config where
  clkW : Nat
  kind : Kind → Byte
  device : Device → Half
  chkSpan : ChkSpan
  tDefault : Nat
  tReset : Nat
  volMax : Nat
  replyKinds : List Kind
  disarmPoint : DisarmPoint

/-- What the spec requires of the parameters: `now` has a width, KIND is injective and the two durations are below
2^(CLK_W-1) (R7, R446), and no device has the code 0, which means "no device selected" (R301). -/
structure Config.Valid (c : Config) : Prop where
  clkW_pos : 0 < c.clkW
  kind_injective : ∀ a b : Kind, c.kind a = c.kind b → a = b
  device_ne_zero : ∀ d : Device, c.device d ≠ 0
  tDefault_lt : c.tDefault < 2 ^ (c.clkW - 1)
  tReset_lt : c.tReset < 2 ^ (c.clkW - 1)

end Sys2Proof
end

