-- ==== Sys2Proof/Machine/Params.lean ====
section
/-! DEFINITION. The fixed constants of the frame (R8), the values this hardware gives the parameters of R7, and the
informative error codes of R302. -/

namespace Sys2Proof.Machine

/-- START, the byte at frame offset 0 (R8, R35). -/
def startByte : Byte := 0x7E

/-- VER, the byte at frame offset 1 (R2, R8). -/
def verByte : Byte := 0xFF

/-- LEN, the byte at frame offset 2 (R8). -/
def lenByte : Byte := 0x06

/-- END, the byte at frame offset 9, also accepted at offset 7 (R8, R145). -/
def endByte : Byte := 0xEF

/-- FB_CMD: commands request feedback (R8, R383). -/
def fbCmd : Bool := true

/-- FB_QUERY: queries do not (R8, R383). -/
def fbQuery : Bool := false

/-- The symbolic kinds in the order of R300's table. -/
def kindList : List Kind :=
  [.next, .previous, .volume, .equalizer, .loop, .selectSource,
   .sleep, .wake, .reset, .play, .pause, .playFromFolder,
   .playFromBigFolder, .stop, .random, .dacEnable, .deviceInserted, .deviceRemoved,
   .finishedUsb, .finishedSd, .finishedFlash, .initComplete, .error, .ack,
   .qStatus, .qVolume, .qEqualizer, .qSequence, .qFirmwareVersion, .qFileCountUsb,
   .qFileCountSd, .qFileCountFlash, .qCurrentFileUsb, .qCurrentFileSd, .qCurrentFileFlash, .qFolderTrackCount,
   .qFolderCount]

/-- KIND's default codes (R300, D8): the spec marks them as general knowledge, not from its source (log 6). -/
def kindCode : Kind → Byte
  | .next => 0x01
  | .previous => 0x02
  | .volume => 0x06
  | .equalizer => 0x07
  | .loop => 0x08
  | .selectSource => 0x09
  | .sleep => 0x0A
  | .wake => 0x0B
  | .reset => 0x0C
  | .play => 0x0D
  | .pause => 0x0E
  | .playFromFolder => 0x0F
  | .playFromBigFolder => 0x14
  | .stop => 0x16
  | .random => 0x18
  | .dacEnable => 0x1A
  | .deviceInserted => 0x3A
  | .deviceRemoved => 0x3B
  | .finishedUsb => 0x3C
  | .finishedSd => 0x3D
  | .finishedFlash => 0x3E
  | .initComplete => 0x3F
  | .error => 0x40
  | .ack => 0x41
  | .qStatus => 0x42
  | .qVolume => 0x43
  | .qEqualizer => 0x44
  | .qSequence => 0x45
  | .qFirmwareVersion => 0x46
  | .qFileCountUsb => 0x47
  | .qFileCountSd => 0x48
  | .qFileCountFlash => 0x49
  | .qCurrentFileUsb => 0x4B
  | .qCurrentFileSd => 0x4C
  | .qCurrentFileFlash => 0x4D
  | .qFolderTrackCount => 0x4E
  | .qFolderCount => 0x4F

/-- DEVICE's default codes (R301, D9): the spec marks them as general knowledge, not from its source (log 6). -/
def deviceCode : Device → Half
  | .usb => 1
  | .sd => 2
  | .aux => 3
  | .sleep => 4
  | .flash => 5

/-- REPLY_KINDS: the kinds that cancel the timer in steady state (R187, D5). -/
def replyKindList : List Kind :=
  [.ack, .error, .qStatus, .qVolume, .qEqualizer, .qSequence, .qFirmwareVersion, .qFileCountUsb, .qFileCountSd,
   .qFileCountFlash, .qCurrentFileUsb, .qCurrentFileSd, .qCurrentFileFlash, .qFolderTrackCount, .qFolderCount]

/-- The values R7 fixes for this hardware: CLK_W 32, T_DEFAULT 200, T_RESET 10000, VOL_MAX 30, CHK_SPAN {3,4,5,6},
DISARM_POINT BEFORE_DISPATCH, and the default code tables. -/
def hardware : Config where
  clkW := 32
  kind := kindCode
  device := deviceCode
  chkSpan := .payload
  tDefault := 200
  tReset := 10000
  volMax := 30
  replyKinds := replyKindList
  disarmPoint := .beforeDispatch

/-- The symbolic kind a kind byte stands for, if any: the `k` with KIND(k) = kind (R215, R300). It is unique where
KIND is injective. -/
def kindOf? (c : Config) (b : Byte) : Option Kind :=
  kindList.find? fun k => c.kind k == b

/-- The kind byte is one of REPLY_KINDS (R187). -/
def isReplyKind (c : Config) (b : Byte) : Bool :=
  c.replyKinds.any fun k => c.kind k == b

/-- The module's error codes by name (R302). Informative: the block never interprets a wire error code. -/
inductive ModuleError where
  | unsupported | noSource | sleeping | serial | badChecksum | fileOutOfRange | trackNotFound | insertion | sdError
  | enteredSleep
deriving DecidableEq, Repr

/-- The informative default values of the error codes (R302; the spec marks them as general knowledge). -/
def moduleErrorCode : ModuleError → Half
  | .unsupported => 0x00
  | .noSource => 0x01
  | .sleeping => 0x02
  | .serial => 0x03
  | .badChecksum => 0x04
  | .fileOutOfRange => 0x05
  | .trackNotFound => 0x06
  | .insertion => 0x07
  | .sdError => 0x08
  | .enteredSleep => 0x0A

end Sys2Proof.Machine
end

