-- ==== Sys2Proof/Machine/Frames.lean ====
section
/-! DEFINITION. A message instruction seen as the frame it stands for, and back (R100, R101, R300). -/

namespace Sys2Proof.Machine

/-- A frame of a symbolic kind, as a message instruction carries it: kind, feedback byte, parameter, tail. -/
structure MsgFrame where
  kind : Kind
  fb : Byte
  param : Half
  tail : FrameTail
deriving DecidableEq, Repr

/-- The frame a message instruction stands for; none for the five port operations. -/
def msgFrame? : Instr → Option MsgFrame
  | .por => none
  | .feed _ => none
  | .send _ _ _ => none
  | .tick => none
  | .reset => none
  | .msgNext fb param tail => some ⟨.next, fb, param, tail⟩
  | .msgPrevious fb param tail => some ⟨.previous, fb, param, tail⟩
  | .msgVolume fb param tail => some ⟨.volume, fb, param, tail⟩
  | .msgEqualizer fb param tail => some ⟨.equalizer, fb, param, tail⟩
  | .msgLoop fb param tail => some ⟨.loop, fb, param, tail⟩
  | .msgSelectSource fb param tail => some ⟨.selectSource, fb, param, tail⟩
  | .msgSleep fb param tail => some ⟨.sleep, fb, param, tail⟩
  | .msgWake fb param tail => some ⟨.wake, fb, param, tail⟩
  | .msgReset fb param tail => some ⟨.reset, fb, param, tail⟩
  | .msgPlay fb param tail => some ⟨.play, fb, param, tail⟩
  | .msgPause fb param tail => some ⟨.pause, fb, param, tail⟩
  | .msgPlayFromFolder fb param tail => some ⟨.playFromFolder, fb, param, tail⟩
  | .msgPlayFromBigFolder fb param tail => some ⟨.playFromBigFolder, fb, param, tail⟩
  | .msgStop fb param tail => some ⟨.stop, fb, param, tail⟩
  | .msgRandom fb param tail => some ⟨.random, fb, param, tail⟩
  | .msgDacEnable fb param tail => some ⟨.dacEnable, fb, param, tail⟩
  | .msgDeviceInserted fb param tail => some ⟨.deviceInserted, fb, param, tail⟩
  | .msgDeviceRemoved fb param tail => some ⟨.deviceRemoved, fb, param, tail⟩
  | .msgFinishedUsb fb param tail => some ⟨.finishedUsb, fb, param, tail⟩
  | .msgFinishedSd fb param tail => some ⟨.finishedSd, fb, param, tail⟩
  | .msgFinishedFlash fb param tail => some ⟨.finishedFlash, fb, param, tail⟩
  | .msgInitComplete fb param tail => some ⟨.initComplete, fb, param, tail⟩
  | .msgError fb param tail => some ⟨.error, fb, param, tail⟩
  | .msgAck fb param tail => some ⟨.ack, fb, param, tail⟩
  | .msgQStatus fb param tail => some ⟨.qStatus, fb, param, tail⟩
  | .msgQVolume fb param tail => some ⟨.qVolume, fb, param, tail⟩
  | .msgQEqualizer fb param tail => some ⟨.qEqualizer, fb, param, tail⟩
  | .msgQSequence fb param tail => some ⟨.qSequence, fb, param, tail⟩
  | .msgQFirmwareVersion fb param tail => some ⟨.qFirmwareVersion, fb, param, tail⟩
  | .msgQFileCountUsb fb param tail => some ⟨.qFileCountUsb, fb, param, tail⟩
  | .msgQFileCountSd fb param tail => some ⟨.qFileCountSd, fb, param, tail⟩
  | .msgQFileCountFlash fb param tail => some ⟨.qFileCountFlash, fb, param, tail⟩
  | .msgQCurrentFileUsb fb param tail => some ⟨.qCurrentFileUsb, fb, param, tail⟩
  | .msgQCurrentFileSd fb param tail => some ⟨.qCurrentFileSd, fb, param, tail⟩
  | .msgQCurrentFileFlash fb param tail => some ⟨.qCurrentFileFlash, fb, param, tail⟩
  | .msgQFolderTrackCount fb param tail => some ⟨.qFolderTrackCount, fb, param, tail⟩
  | .msgQFolderCount fb param tail => some ⟨.qFolderCount, fb, param, tail⟩

/-- The message instruction of a frame. -/
def ofMsgFrame : MsgFrame → Instr
  | ⟨.next, fb, param, tail⟩ => .msgNext fb param tail
  | ⟨.previous, fb, param, tail⟩ => .msgPrevious fb param tail
  | ⟨.volume, fb, param, tail⟩ => .msgVolume fb param tail
  | ⟨.equalizer, fb, param, tail⟩ => .msgEqualizer fb param tail
  | ⟨.loop, fb, param, tail⟩ => .msgLoop fb param tail
  | ⟨.selectSource, fb, param, tail⟩ => .msgSelectSource fb param tail
  | ⟨.sleep, fb, param, tail⟩ => .msgSleep fb param tail
  | ⟨.wake, fb, param, tail⟩ => .msgWake fb param tail
  | ⟨.reset, fb, param, tail⟩ => .msgReset fb param tail
  | ⟨.play, fb, param, tail⟩ => .msgPlay fb param tail
  | ⟨.pause, fb, param, tail⟩ => .msgPause fb param tail
  | ⟨.playFromFolder, fb, param, tail⟩ => .msgPlayFromFolder fb param tail
  | ⟨.playFromBigFolder, fb, param, tail⟩ => .msgPlayFromBigFolder fb param tail
  | ⟨.stop, fb, param, tail⟩ => .msgStop fb param tail
  | ⟨.random, fb, param, tail⟩ => .msgRandom fb param tail
  | ⟨.dacEnable, fb, param, tail⟩ => .msgDacEnable fb param tail
  | ⟨.deviceInserted, fb, param, tail⟩ => .msgDeviceInserted fb param tail
  | ⟨.deviceRemoved, fb, param, tail⟩ => .msgDeviceRemoved fb param tail
  | ⟨.finishedUsb, fb, param, tail⟩ => .msgFinishedUsb fb param tail
  | ⟨.finishedSd, fb, param, tail⟩ => .msgFinishedSd fb param tail
  | ⟨.finishedFlash, fb, param, tail⟩ => .msgFinishedFlash fb param tail
  | ⟨.initComplete, fb, param, tail⟩ => .msgInitComplete fb param tail
  | ⟨.error, fb, param, tail⟩ => .msgError fb param tail
  | ⟨.ack, fb, param, tail⟩ => .msgAck fb param tail
  | ⟨.qStatus, fb, param, tail⟩ => .msgQStatus fb param tail
  | ⟨.qVolume, fb, param, tail⟩ => .msgQVolume fb param tail
  | ⟨.qEqualizer, fb, param, tail⟩ => .msgQEqualizer fb param tail
  | ⟨.qSequence, fb, param, tail⟩ => .msgQSequence fb param tail
  | ⟨.qFirmwareVersion, fb, param, tail⟩ => .msgQFirmwareVersion fb param tail
  | ⟨.qFileCountUsb, fb, param, tail⟩ => .msgQFileCountUsb fb param tail
  | ⟨.qFileCountSd, fb, param, tail⟩ => .msgQFileCountSd fb param tail
  | ⟨.qFileCountFlash, fb, param, tail⟩ => .msgQFileCountFlash fb param tail
  | ⟨.qCurrentFileUsb, fb, param, tail⟩ => .msgQCurrentFileUsb fb param tail
  | ⟨.qCurrentFileSd, fb, param, tail⟩ => .msgQCurrentFileSd fb param tail
  | ⟨.qCurrentFileFlash, fb, param, tail⟩ => .msgQCurrentFileFlash fb param tail
  | ⟨.qFolderTrackCount, fb, param, tail⟩ => .msgQFolderTrackCount fb param tail
  | ⟨.qFolderCount, fb, param, tail⟩ => .msgQFolderCount fb param tail

end Sys2Proof.Machine
end

