-- ==== Sys2Proof/WellFormed.lean ====
section
/-! DEFINITION. Well-formedness of an instruction. The operand types admit only values the encodings admit, so one check
is left: a message written as a full frame is one frame to the block's own length rule (R105), that is, its chk_hi
byte is not END. A frame whose chk_hi is END still decodes and still runs (R152; log 17). -/

namespace Sys2Proof

/-- The tail is read at the length it is written with: a full frame's chk_hi is not END (R105, R145). -/
def FrameTail.wf : FrameTail → Bool
  | .short => true
  | .full chk => chk.extractLsb' 8 8 != Machine.endByte

/-- An instruction is well formed when its frame, if it has one, has a well-formed tail. -/
def Instr.wf (i : Instr) : Bool :=
  match Machine.msgFrame? i with
  | some f => f.tail.wf
  | none => true

end Sys2Proof
end

