-- ==== Sys2Proof/Decode.lean ====
section
/-! DEFINITION. Decoding of what stands on the input ports, the encoder from the same tables, and the layout of a word as
spec/opcode_table.json numbers its bits (spec/30_encoding.md R100, R101, R109, R110). -/

namespace Sys2Proof

/-- Why an input is no row of the opcode table. The first two are R110's reserved operation words; the others are
bursts of bytes that no frame10 row matches, which the block still receives byte by byte (R108; log 9). -/
inductive DecodeError where
  | reservedOpc
  | mustBeZero
  | notAFrame
  | unknownKind
deriving DecidableEq, Repr

/-- Decoding of the operation word (R109, R110). -/
def decodeOpWord (w : OpWord) : Except DecodeError Instr :=
  let opc := w.extractLsb' 28 4
  if opc = 0x0 then
    if w.extractLsb' 0 28 = 0 then .ok .por else .error .mustBeZero
  else if opc = 0x1 then
    if w.extractLsb' 8 20 = 0 then .ok (.feed (w.extractLsb' 0 8)) else .error .mustBeZero
  else if opc = 0x2 then
    if w.extractLsb' 25 3 = 0 then
      .ok (.send (w.getLsbD 24) (w.extractLsb' 16 8) (w.extractLsb' 0 16))
    else .error .mustBeZero
  else if opc = 0x3 then
    if w.extractLsb' 0 28 = 0 then .ok .tick else .error .mustBeZero
  else if opc = 0x4 then
    if w.extractLsb' 0 28 = 0 then .ok .reset else .error .mustBeZero
  else .error .reservedOpc

/-- The message instruction of a frame's variable bytes (R100 to R102): the kind byte is looked up in KIND (R7). -/
def decodeMsg (c : Config) (kind fb paramHi paramLo : Byte) (tail : FrameTail) : Except DecodeError Instr :=
  match Machine.kindOf? c kind with
  | some k => .ok (Machine.ofMsgFrame ⟨k, fb, paramHi ++ paramLo, tail⟩)
  | none => .error .unknownKind

/-- Decoding of a burst of bytes, offset 0 first: a short frame of 8 bytes (R101) or a full frame of 10 (R100). The
checksum and the feedback byte are not checked here; any value of them is a word of the row. -/
def decodeFrame (c : Config) : List Byte → Except DecodeError Instr
  | [b0, b1, b2, kind, fb, paramHi, paramLo, b7] =>
    if b0 = Machine.startByte ∧ b1 = Machine.verByte ∧ b2 = Machine.lenByte ∧ b7 = Machine.endByte then
      decodeMsg c kind fb paramHi paramLo .short
    else .error .notAFrame
  | [b0, b1, b2, kind, fb, paramHi, paramLo, chkHi, chkLo, b9] =>
    if b0 = Machine.startByte ∧ b1 = Machine.verByte ∧ b2 = Machine.lenByte ∧ b9 = Machine.endByte then
      decodeMsg c kind fb paramHi paramLo (.full (chkHi ++ chkLo))
    else .error .notAFrame
  | _ => .error .notAFrame

/-- Decoding of a port input, at the block's parameters (R7): KIND says which frames are rows of the table. -/
def decode (c : Config) : PortInput → Except DecodeError Instr
  | .op w => decodeOpWord w
  | .rx bytes => decodeFrame c bytes

/-- The bytes of a frame on the wire, offset 0 first, big-endian (R73, R100, R101). -/
def frameBytes (kind fb : Byte) (param : Half) : FrameTail → List Byte
  | .short =>
    [Machine.startByte, Machine.verByte, Machine.lenByte, kind, fb, param.extractLsb' 8 8, param.extractLsb' 0 8,
     Machine.endByte]
  | .full chk =>
    [Machine.startByte, Machine.verByte, Machine.lenByte, kind, fb, param.extractLsb' 8 8, param.extractLsb' 0 8,
     chk.extractLsb' 8 8, chk.extractLsb' 0 8, Machine.endByte]

/-- The operation word of a port operation (R109, R110), and 0 for the others. -/
def encodeOpWord : Instr → OpWord
  | .feed b => (0x100000 : BitVec 24) ++ b
  | .send fb kind param => (0x10 : BitVec 7) ++ BitVec.ofBool fb ++ kind ++ param
  | .tick => 0x30000000
  | .reset => 0x40000000
  | _ => 0x00000000

/-- The encoding of an instruction: its operation word, or the bytes of its frame. -/
def encode (c : Config) (i : Instr) : PortInput :=
  match Machine.msgFrame? i with
  | some f => .rx (frameBytes (c.kind f.kind) f.fb f.param f.tail)
  | none => .op (encodeOpWord i)

/-- The `n` bytes of a number, the most significant first. -/
def bytesOfNat : Nat → Nat → List Byte
  | 0, _ => []
  | n + 1, w => BitVec.ofNat 8 (w / 256 ^ n) :: bytesOfNat n w

/-- A word of the opcode table as a port input (log 13): up to 32 bits an operation word, otherwise a frame with offset
0 in its most significant byte, as R100 and the table's own match values number it. -/
def tableInput (nbits w : Nat) : PortInput :=
  if nbits ≤ 32 then .op (BitVec.ofNat 32 w)
  else if nbits ≤ 64 then .rx (bytesOfNat 8 w)
  else .rx (bytesOfNat 10 w)

/-- The instruction the decoder of this hardware reads from a word of the opcode table; none where it refuses. -/
def decodeTableWord (nbits w : Nat) : Option Instr :=
  (decode Machine.hardware (tableInput nbits w)).toOption

end Sys2Proof
end

