-- ==== Sys2Proof/Machine/Operands.lean ====
section
/-! DEFINITION. The operands of frames: big-endian fields (R73, R102), the checksum (R103), ENCODE (R140), the frame
record and its validity (R147, R148), and the numeric codes of the enumerated registers (R33, R38, R39). -/

namespace Sys2Proof.Machine

/-- A 16-bit field from its two bytes, high byte first (R73, R102). -/
def joinBytes (hi lo : Byte) : Half := hi ++ lo

/-- Bits 15:8 of a field (R73). -/
def hiByte (v : Half) : Byte := v.extractLsb' 8 8

/-- Bits 7:0 of a field (R73). -/
def loByte (v : Half) : Byte := v.extractLsb' 0 8

/-- The feedback byte ENCODE writes: zext_8(fb) (R104, R140). -/
def fbByte (fb : Bool) : Byte := (BitVec.ofBool fb).zeroExtend 8

/-- The frame offsets of CHK_SPAN (R7, R103). -/
def spanOffsets : ChkSpan → List Nat
  | .payload => [3, 4, 5, 6]
  | .headerAndPayload => [1, 2, 3, 4, 5, 6]

/-- The byte at a frame offset below 7, given the four variable bytes (R100). -/
def frameByteAt (kind fb paramHi paramLo : Byte) : Nat → Byte
  | 0 => startByte
  | 1 => verByte
  | 2 => lenByte
  | 3 => kind
  | 4 => fb
  | 5 => paramHi
  | 6 => paramLo
  | _ => 0

/-- `S` of R103: the 16-bit sum over CHK_SPAN of the frame's bytes, each zero-extended. -/
def checksumSum (c : Config) (kind fb paramHi paramLo : Byte) : Half :=
  ((spanOffsets c.chkSpan).map fun i => (frameByteAt kind fb paramHi paramLo i).zeroExtend 16).foldl (· + ·) 0

/-- The transmitted checksum, `(0 - S) mod 2^16` (R103). -/
def checksum (c : Config) (kind fb paramHi paramLo : Byte) : Half :=
  0 - checksumSum c kind fb paramHi paramLo

/-- ENCODE(kind, param, fb) (R140): the complete, checksummed 10-byte frame, offset 0 first. -/
def encodeFrame (c : Config) (kind : Byte) (param : Half) (fb : Bool) : List Byte :=
  let chk := checksum c kind (fbByte fb) (hiByte param) (loByte param)
  [startByte, verByte, lenByte, kind, fbByte fb, hiByte param, loByte param, hiByte chk, loByte chk, endByte]

/-- FrameRecord of R147. `chk` is absent exactly in a short frame, so it tells `len`. -/
structure FrameRecord where
  kind : Byte
  fb : Byte
  param : Half
  chk : Option Half
deriving DecidableEq, Repr

/-- `len` of a frame record: 10 with a checksum, 8 without (R147). -/
def recordLen (fr : FrameRecord) : Nat :=
  match fr.chk with
  | some _ => 10
  | none => 8

/-- The record of a short frame, from the receive buffer (R147). -/
def shortRecord (b : RxBuf) : FrameRecord :=
  ⟨b.kind, b.fb, joinBytes b.paramHi b.paramLo, none⟩

/-- The record of a full frame, from the receive buffer (R147). -/
def fullRecord (b : RxBuf) : FrameRecord :=
  ⟨b.kind, b.fb, joinBytes b.paramHi b.paramLo, some (joinBytes b.chkHi b.chkLo)⟩

/-- VALID (R148): a short frame is valid; a full frame is valid iff sum and checksum add to 0 mod 2^16. -/
def recordValid (c : Config) (fr : FrameRecord) : Bool :=
  match fr.chk with
  | some chk => checksumSum c fr.kind fr.fb (hiByte fr.param) (loByte fr.param) + chk == 0
  | none => true

/-- The write RX_BUF[i] <- b (R11, R34); offsets 0, 1, 2 and 9 have no cell. -/
def storeCell (b : Byte) (buf : RxBuf) : RxCursor → RxBuf
  | .at3 => { buf with kind := b }
  | .at4 => { buf with fb := b }
  | .at5 => { buf with paramHi := b }
  | .at6 => { buf with paramLo := b }
  | .at7 => { buf with chkHi := b }
  | .at8 => { buf with chkLo := b }
  | _ => buf

/-- RX_CUR + 1, at the offsets where a rule advances the cursor (R142, R144, R145). -/
def nextCursor : RxCursor → RxCursor
  | .at0 => .at1
  | .at1 => .at2
  | .at2 => .at3
  | .at3 => .at4
  | .at4 => .at5
  | .at5 => .at6
  | .at6 => .at7
  | .at7 => .at8
  | .at8 => .at9
  | .at9 => .at0

/-- The 4-bit code of RX_CUR (R33). -/
def cursorCode : RxCursor → BitVec 4
  | .at0 => 0
  | .at1 => 1
  | .at2 => 2
  | .at3 => 3
  | .at4 => 4
  | .at5 => 5
  | .at6 => 6
  | .at7 => 7
  | .at8 => 8
  | .at9 => 9

/-- The 3-bit code of FSM_STATE (R38). -/
def fsmStateCode : FsmState → BitVec 3
  | .none => 0
  | .resettingHardware => 1
  | .gettingVersion => 2
  | .checkingUsbFileCount => 3
  | .checkingSdFileCount => 4
  | .selectingUsb => 5
  | .selectingSd => 6
  | .checkingFolderCount => 7

/-- The 3-bit code of RESULT (R39). -/
def resultCode : BringupResult → BitVec 3
  | .notStarted => 0
  | .inProgress => 1
  | .ready => 2
  | .noSource => 3
  | .failed => 4

/-- The RESULT value of an end of bring-up (R253). -/
def endResultValue : EndResult → BringupResult
  | .ready => .ready
  | .noSource => .noSource
  | .failed => .failed

end Sys2Proof.Machine
end

