-- ==== Sys2Proof/Machine/Ops.lean ====
section
/-! DEFINITION. The named operations over the registers, the timer and the two output streams (R11, R180 to R184), the
status outputs (R46), and what POR leaves (R440). The block has no memory and no exceptions; the one analogue of taking an exception,
the injection of the synthetic TIMEOUT event, is `dispatchTimeout` in Machine/Events.lean (R406). -/

namespace Sys2Proof.Machine

/-- RX_CUR <- v (R33). -/
def State.setRxCur (v : RxCursor) (s : State) : State := { s with rxCur := v }

/-- RX_BUF[RX_CUR] <- b (R144, R145). -/
def State.storeRx (b : Byte) (s : State) : State := { s with rxBuf := storeCell b s.rxBuf s.rxCur }

/-- FSM_STATE <- v (R38). -/
def State.setFsmState (v : FsmState) (s : State) : State := { s with fsmState := v }

/-- RESULT <- v (R39). -/
def State.setResult (v : BringupResult) (s : State) : State := { s with result := v }

/-- SEL_DEVICE <- v (R40). -/
def State.setSelDevice (v : Half) (s : State) : State := { s with selDevice := v }

/-- FILE_COUNT <- v (R41). -/
def State.setFileCount (v : Half) (s : State) : State := { s with fileCount := v }

/-- FOLDER_COUNT <- v (R42). -/
def State.setFolderCount (v : Half) (s : State) : State := { s with folderCount := v }

/-- `(t + d) mod 2^CLK_W`: the time `d` units after `t` (R180). -/
def timeAfter (c : Config) (t : Nat) (d : Nat) : Nat := (t + d) % 2 ^ c.clkW

/-- `(now - since) mod 2^CLK_W`: how far `now` lies after `since` (R181, R190). -/
def elapsed (c : Config) (now since : Nat) : Nat := (now + (2 ^ c.clkW - since % 2 ^ c.clkW)) % 2 ^ c.clkW

/-- `signed_CLK_W(x)`: a CLK_W-bit pattern read as a two's-complement number (R10). -/
def signedClock (c : Config) (x : Nat) : Int := if x < 2 ^ (c.clkW - 1) then x else (x : Int) - (2 ^ c.clkW : Nat)

/-- ARM(d) (R180): the deadline is `(now + d) mod 2^CLK_W`, replacing any deadline armed before. -/
def State.arm (c : Config) (d : Nat) (s : State) : State :=
  { s with tmrArmed := true, tmrDeadline := timeAfter c s.now d }

/-- CANCEL() (R182): disarms; the deadline keeps its value. -/
def State.cancel (s : State) : State := { s with tmrArmed := false }

/-- EXPIRED() (R181): armed, and the signed difference `now - TMR_DEADLINE` is not negative. -/
def State.expired (c : Config) (s : State) : Bool :=
  s.tmrArmed && decide (0 ≤ signedClock c (elapsed c s.now s.tmrDeadline))

/-- TxEmit(f) (R11, R72): appends a frame to TX_LOG, offset 0 first. -/
def State.txEmit (f : List Byte) (s : State) : State := { s with txLog := s.txLog ++ f }

/-- SinkEmit(e) (R11, R44): appends a notification to SINK_LOG. -/
def State.sinkEmit (n : Notification) (s : State) : State := { s with sinkLog := s.sinkLog ++ [n] }

/-- SinkEmit of several notifications, in order. -/
def State.sinkEmitAll (ns : List Notification) (s : State) : State := { s with sinkLog := s.sinkLog ++ ns }

/-- TX_FRAME(kind, param, fb, d) (R184): transmits one frame and arms the timer for it. -/
def txFrame (c : Config) (kind : Byte) (param : Half) (fb : Bool) (d : Nat) (s : State) : State :=
  (s.txEmit (encodeFrame c kind param fb)).arm c d

/-- An operation is taken from the input port: it leaves `pending`, and `now`, a port of CLK_W bits, is sampled (R48, R49,
R80). -/
def State.take (c : Config) (now : Nat) (rest : List PortOp) (s : State) : State :=
  { s with now := now % 2 ^ c.clkW, pending := rest }

/-- What POR leaves (R440). The input ports are the host's and stay. -/
def State.powerOn (s : State) : State where
  rxCur := .at0
  rxBuf := ⟨0, 0, 0, 0, 0, 0⟩
  tmrArmed := false
  tmrDeadline := 0
  fsmState := .none
  result := .notStarted
  selDevice := 0
  fileCount := 0
  folderCount := 0
  txLog := []
  sinkLog := []
  now := s.now
  pending := s.pending
  stepOut := s.stepOut

/-- The status outputs (R46). -/
structure Status where
  state : BitVec 3
  result : BitVec 3
  device : Half
  fileCount : Half
  folderCount : Half
  busy : Bool
deriving DecidableEq, Repr

/-- What the host reads on the status outputs; reading changes nothing (R46, R78). -/
def State.status (s : State) : Status :=
  ⟨fsmStateCode s.fsmState, resultCode s.result, s.selDevice, s.fileCount, s.folderCount, s.tmrArmed⟩

end Sys2Proof.Machine
end

