-- ==== Sys2Proof/Machine/Fsm.lean ====
section
/-! DEFINITION. The bring-up FSM controller (spec/43_bringup_fsm.md): the events, the entry actions, goto, finish, the
handler of each state and FSM_STEP. -/

namespace Sys2Proof.Machine

/-- FsmEvent of R210. ENTER and TIMEOUT have no byte encoding (R107). -/
inductive FsmEvent where
  | enter
  | timeout
  | wire (kind fb : Byte) (param : Half)
deriving DecidableEq, Repr

/-- The event is a wire event of the symbolic kind `k`, matched by code alone (R252). -/
def isWireOf (c : Config) (k : Kind) : FsmEvent → Bool
  | .wire kind _ _ => kind == c.kind k
  | _ => false

/-- The parameter of a wire event, which the handlers read for counts (R252); 0 for the synthetic events, which no
handler reads it from. -/
def eventParam : FsmEvent → Half
  | .wire _ _ param => param
  | _ => 0

/-- IS_ERROR (R210): TIMEOUT, or a wire event of kind ERROR with any code. -/
def isError (c : Config) : FsmEvent → Bool
  | .timeout => true
  | ev => isWireOf c .error ev

/-- Entry action of RESETTING_HARDWARE (R254). -/
def enterResettingHardware (c : Config) (s : State) : State := txFrame c (c.kind .reset) 0 fbCmd c.tReset s

/-- Entry action of GETTING_VERSION (R255). -/
def enterGettingVersion (c : Config) (s : State) : State :=
  txFrame c (c.kind .qFirmwareVersion) 0 fbQuery c.tDefault s

/-- Entry action of CHECKING_USB_FILE_COUNT (R256). -/
def enterCheckingUsb (c : Config) (s : State) : State := txFrame c (c.kind .qFileCountUsb) 0 fbQuery c.tDefault s

/-- Entry action of CHECKING_SD_FILE_COUNT (R257). -/
def enterCheckingSd (c : Config) (s : State) : State := txFrame c (c.kind .qFileCountSd) 0 fbQuery c.tDefault s

/-- Entry action of SELECTING_USB (R258). -/
def enterSelectingUsb (c : Config) (s : State) : State :=
  txFrame c (c.kind .selectSource) (c.device .usb) fbCmd c.tDefault s

/-- Entry action of SELECTING_SD (R259). -/
def enterSelectingSd (c : Config) (s : State) : State :=
  txFrame c (c.kind .selectSource) (c.device .sd) fbCmd c.tDefault s

/-- Entry action of CHECKING_FOLDER_COUNT (R260). -/
def enterCheckingFolder (c : Config) (s : State) : State := txFrame c (c.kind .qFolderCount) 0 fbQuery c.tDefault s

/-- The ENTER event in the current state: its entry action. NONE has none (R261). This is FSM_STEP(ENTER); no entry
action calls goto (R263), so it is written before goto. -/
def enterState (c : Config) (s : State) : State :=
  match s.fsmState with
  | .none => s
  | .resettingHardware => enterResettingHardware c s
  | .gettingVersion => enterGettingVersion c s
  | .checkingUsbFileCount => enterCheckingUsb c s
  | .checkingSdFileCount => enterCheckingSd c s
  | .selectingUsb => enterSelectingUsb c s
  | .selectingSd => enterSelectingSd c s
  | .checkingFolderCount => enterCheckingFolder c s

/-- goto(T) (R251): nothing on reentry; otherwise cancel, change state, and enter it at once. -/
def goto (c : Config) (t : FsmState) (s : State) : State :=
  if t = s.fsmState then s
  else if t = .none then s.cancel.setFsmState t
  else enterState c (s.cancel.setFsmState t)

/-- finish(r) (R253): RESULT, then the BRINGUP_END notification, then goto(NONE). -/
def finish (c : Config) (r : EndResult) (s : State) : State :=
  goto c .none ((s.setResult (endResultValue r)).sinkEmit (.bringupEnd r))

/-- RESETTING_HARDWARE (R254). -/
def handleResettingHardware (c : Config) (ev : FsmEvent) (s : State) : State :=
  if ev = .enter then enterResettingHardware c s
  else if isWireOf c .initComplete ev then goto c .gettingVersion s
  else if isError c ev then finish c .failed s
  else s

/-- GETTING_VERSION (R255). -/
def handleGettingVersion (c : Config) (ev : FsmEvent) (s : State) : State :=
  if ev = .enter then enterGettingVersion c s
  else if isWireOf c .qFirmwareVersion ev then goto c .checkingUsbFileCount s
  else if isError c ev then goto c .checkingUsbFileCount s
  else s

/-- CHECKING_USB_FILE_COUNT (R256). -/
def handleCheckingUsb (c : Config) (ev : FsmEvent) (s : State) : State :=
  if ev = .enter then enterCheckingUsb c s
  else if isWireOf c .qFileCountUsb ev then
    if eventParam ev = 0 then goto c .checkingSdFileCount s
    else goto c .selectingUsb (s.setFileCount (eventParam ev))
  else if isError c ev then goto c .checkingSdFileCount s
  else s

/-- CHECKING_SD_FILE_COUNT (R257). -/
def handleCheckingSd (c : Config) (ev : FsmEvent) (s : State) : State :=
  if ev = .enter then enterCheckingSd c s
  else if isWireOf c .qFileCountSd ev then
    if eventParam ev = 0 then finish c .noSource s
    else goto c .selectingSd (s.setFileCount (eventParam ev))
  else if isError c ev then finish c .noSource s
  else s

/-- SELECTING_USB (R258): every event but ACK is ignored, errors too. -/
def handleSelectingUsb (c : Config) (ev : FsmEvent) (s : State) : State :=
  if ev = .enter then enterSelectingUsb c s
  else if isWireOf c .ack ev then goto c .checkingFolderCount (s.setSelDevice (c.device .usb))
  else s

/-- SELECTING_SD (R259): every event but ACK is ignored, errors too. -/
def handleSelectingSd (c : Config) (ev : FsmEvent) (s : State) : State :=
  if ev = .enter then enterSelectingSd c s
  else if isWireOf c .ack ev then goto c .checkingFolderCount (s.setSelDevice (c.device .sd))
  else s

/-- CHECKING_FOLDER_COUNT (R260): a count of 0 is accepted too; every other event is ignored, errors too. -/
def handleCheckingFolder (c : Config) (ev : FsmEvent) (s : State) : State :=
  if ev = .enter then enterCheckingFolder c s
  else if isWireOf c .qFolderCount ev then finish c .ready (s.setFolderCount (eventParam ev))
  else s

/-- FSM_STEP(ev) (R252): the handler of the current state. It is called only while a state is active; NONE has no
handlers and consumes no events (R261; log 10). -/
def fsmStep (c : Config) (ev : FsmEvent) (s : State) : State :=
  match s.fsmState with
  | .none => s
  | .resettingHardware => handleResettingHardware c ev s
  | .gettingVersion => handleGettingVersion c ev s
  | .checkingUsbFileCount => handleCheckingUsb c ev s
  | .checkingSdFileCount => handleCheckingSd c ev s
  | .selectingUsb => handleSelectingUsb c ev s
  | .selectingSd => handleSelectingSd c ev s
  | .checkingFolderCount => handleCheckingFolder c ev s

/-- What RESET clears before it enters bring-up (R262): the state is forced to NONE with no exit action, which defeats
the reentry guard of goto. -/
def restartBringup (c : Config) (s : State) : State :=
  goto c .resettingHardware
    ((((((s.setFsmState .none).cancel).setSelDevice 0).setFileCount 0).setFolderCount 0).setResult .inProgress)

end Sys2Proof.Machine
end

