-- ==== Sys2Proof/Machine/Events.lean ====
section
/-! DEFINITION. The event path (spec/42_event_path.md): the notification decoder NOTIFY_WIRE and the three dispatchers.
`dispatchTimeout` is the block's one analogue of taking an exception (R406). -/

namespace Sys2Proof.Machine

/-- The devices a bitmask names, in ascending bit order: bit 0 USB, bit 1 SD, bit 2 AUX; the others are ignored
(R330, R331). -/
def maskDevices (param : Half) : List Dev3 :=
  (if param.getLsbD 0 then [.usb] else []) ++ (if param.getLsbD 1 then [.sd] else []) ++
    (if param.getLsbD 2 then [.aux] else [])

/-- The Notification line of each kind's rule in spec/44_message_kinds.md (R215, R303): what a validated frame of the
kind emits. A command kind emits nothing. -/
def kindNotifications (param : Half) : Kind → List Notification
  | .next => []
  | .previous => []
  | .volume => []
  | .equalizer => []
  | .loop => []
  | .selectSource => []
  | .sleep => []
  | .wake => []
  | .reset => []
  | .play => []
  | .pause => []
  | .playFromFolder => []
  | .playFromBigFolder => []
  | .stop => []
  | .random => []
  | .dacEnable => []
  | .deviceInserted => (maskDevices param).map .deviceInserted
  | .deviceRemoved => (maskDevices param).map .deviceRemoved
  | .finishedUsb => [.fileFinished .usb param]
  | .finishedSd => [.fileFinished .sd param]
  | .finishedFlash => [.fileFinished .flash param]
  | .initComplete =>
    [.initComplete (param.getLsbD 0) (param.getLsbD 1) (param.getLsbD 2) (param.getLsbD 4)]
  | .error => [.error (.wireCode param)]
  | .ack => [.ack]
  | .qStatus => [.status (hiByte param) (loByte param)]
  | .qVolume => [.volume param]
  | .qEqualizer => [.equalizer param]
  | .qSequence => [.sequence param]
  | .qFirmwareVersion => [.firmwareVersion param]
  | .qFileCountUsb => [.fileCount .usb param]
  | .qFileCountSd => [.fileCount .sd param]
  | .qFileCountFlash => [.fileCount .flash param]
  | .qCurrentFileUsb => [.currentFile .usb param]
  | .qCurrentFileSd => [.currentFile .sd param]
  | .qCurrentFileFlash => [.currentFile .flash param]
  | .qFolderTrackCount => [.folderTrackCount param]
  | .qFolderCount => [.folderCount param]

/-- What NOTIFY_WIRE emits for a kind byte: nothing if no symbolic kind has that code (R215). -/
def wireNotifications (c : Config) (kind : Byte) (param : Half) : List Notification :=
  match kindOf? c kind with
  | some k => kindNotifications param k
  | none => []

/-- NOTIFY_WIRE(kind, param) (R215): it changes nothing but SINK_LOG (R216). -/
def notifyWire (c : Config) (kind : Byte) (param : Half) (s : State) : State :=
  s.sinkEmitAll (wireNotifications c kind param)

/-- DISPATCH_FRAME(fr, now) (R212): the FSM first if bring-up was active, else the reply cancellation of R187; then the
decoder. -/
def dispatchFrame (c : Config) (fr : FrameRecord) (s : State) : State :=
  let wasIdle := decide (s.fsmState = .none)
  let s1 := if wasIdle then s else fsmStep c (.wire fr.kind fr.fb fr.param) s
  let s2 := if wasIdle && isReplyKind c fr.kind then s1.cancel else s1
  notifyWire c fr.kind fr.param s2

/-- DISPATCH_INVALID(fr) (R213). Only a full frame can be invalid (R148), so the record always has its checksum; on one
without, which no operation passes, nothing happens (log 11). -/
def dispatchInvalid (fr : FrameRecord) (s : State) : State :=
  match fr.chk with
  | some chk => s.sinkEmit (.invalid fr.kind fr.fb fr.param chk)
  | none => s

/-- DISPATCH_TIMEOUT(now) (R214): the synthetic TIMEOUT event to the FSM if bring-up is active, then to the sink. -/
def dispatchTimeout (c : Config) (s : State) : State :=
  let s1 := if s.fsmState = .none then s else fsmStep c .timeout s
  s1.sinkEmit (.error .timedOut)

end Sys2Proof.Machine
end

