-- ==== Sys2Proof/Machine/Codec.lean ====
section
/-! DEFINITION. The receive parser (spec/40_codec.md): RESYNC, COMPLETE and FEED, and a burst of bytes as a FEED for each
(R112 FEEDS). -/

namespace Sys2Proof.Machine

/-- RESYNC(b) (R143): a START byte begins a new frame, any other byte is discarded. -/
def resync (b : Byte) (s : State) : State :=
  if b = startByte then s.setRxCur .at1 else s.setRxCur .at0

/-- COMPLETE(n, now) (R141, R147 to R149), on the completed frame's record: hand-off, and the step outputs
frame_done = 1 and frame_ok. -/
def complete (c : Config) (fr : FrameRecord) (s : State) : State :=
  if recordValid c fr then (dispatchFrame c fr s).pushOut (.feed true true)
  else (dispatchInvalid fr s).pushOut (.feed true false)

/-- A template position (R142, R143): on a match the cursor advances and nothing is stored, else RESYNC. -/
def feedTemplate (expected b : Byte) (s : State) : State :=
  (if b = expected then s.setRxCur (nextCursor s.rxCur) else resync b s).pushOut (.feed false false)

/-- A stored position (R144): the byte is stored whatever it is, and the cursor advances. -/
def feedStored (b : Byte) (s : State) : State :=
  ((s.storeRx b).setRxCur (nextCursor s.rxCur)).pushOut (.feed false false)

/-- FEED rx_byte (R141): one received byte. -/
def feedByte (c : Config) (b : Byte) (s : State) : State :=
  match s.rxCur with
  | .at0 => feedTemplate startByte b s
  | .at1 => feedTemplate verByte b s
  | .at2 => feedTemplate lenByte b s
  | .at3 => feedStored b s
  | .at4 => feedStored b s
  | .at5 => feedStored b s
  | .at6 => feedStored b s
  | .at7 => if b = endByte then complete c (shortRecord s.rxBuf) (s.setRxCur .at0) else feedStored b s
  | .at8 => feedStored b s
  | .at9 =>
    if b = endByte then complete c (fullRecord s.rxBuf) (s.setRxCur .at0)
    else (resync b s).pushOut (.feed false false)

/-- FEEDS b0 b1 ... bn (R112): a FEED for each byte, all at the same `now`. -/
def feedBytes (c : Config) : List Byte → State → State
  | [], s => s
  | b :: bs, s => feedBytes c bs (feedByte c b s)

end Sys2Proof.Machine
end

