-- ==== Sys2Proof/Machine/Receive.lean ====
section
/-! DEFINITION. A frame arriving from the module: the operation all message instructions share (R112, R303; log 1). -/

namespace Sys2Proof.Machine

/-- A frame of symbolic kind `k` arrives at one `now`: a FEED for each of its bytes, in order, from whatever the parser
has accumulated (R112, R141). -/
def receiveFrame (c : Config) (k : Kind) (fb : Byte) (param : Half) (tail : FrameTail) (s : State) : State :=
  feedBytes c (frameBytes (c.kind k) fb param tail) s.clearOut

end Sys2Proof.Machine
end

