-- ==== Sys2Proof/Machine/Commands.lean ====
section
/-! DEFINITION. The meanings of the 16 command kinds (R310 to R325) as frames that arrive from the module: the parser takes the frame, and a
validated one emits no notification, means nothing to the FSM and is no reply (R303). Their outbound half, what the
block transmits, is SEND (R183), the entry actions of the FSM and the host surface (Machine/HostSurface.lean). -/

namespace Sys2Proof.Machine

/-- NEXT (R310). -/
def execMsgNext (fb : Byte) (param : Half) (tail : FrameTail) (s : State) : Host.Outcome State Fault Refusal :=
  .next (receiveFrame hardware .next fb param tail s)

/-- PREVIOUS (R311). -/
def execMsgPrevious (fb : Byte) (param : Half) (tail : FrameTail) (s : State) : Host.Outcome State Fault Refusal :=
  .next (receiveFrame hardware .previous fb param tail s)

/-- VOLUME (R317). -/
def execMsgVolume (fb : Byte) (param : Half) (tail : FrameTail) (s : State) : Host.Outcome State Fault Refusal :=
  .next (receiveFrame hardware .volume fb param tail s)

/-- EQUALIZER (R318). -/
def execMsgEqualizer (fb : Byte) (param : Half) (tail : FrameTail) (s : State) : Host.Outcome State Fault Refusal :=
  .next (receiveFrame hardware .equalizer fb param tail s)

/-- LOOP (R315). -/
def execMsgLoop (fb : Byte) (param : Half) (tail : FrameTail) (s : State) : Host.Outcome State Fault Refusal :=
  .next (receiveFrame hardware .loop fb param tail s)

/-- SELECT_SOURCE (R323). -/
def execMsgSelectSource (fb : Byte) (param : Half) (tail : FrameTail) (s : State) : Host.Outcome State Fault Refusal :=
  .next (receiveFrame hardware .selectSource fb param tail s)

/-- SLEEP (R319). -/
def execMsgSleep (fb : Byte) (param : Half) (tail : FrameTail) (s : State) : Host.Outcome State Fault Refusal :=
  .next (receiveFrame hardware .sleep fb param tail s)

/-- WAKE (R320). -/
def execMsgWake (fb : Byte) (param : Half) (tail : FrameTail) (s : State) : Host.Outcome State Fault Refusal :=
  .next (receiveFrame hardware .wake fb param tail s)

/-- RESET (R322). -/
def execMsgReset (fb : Byte) (param : Half) (tail : FrameTail) (s : State) : Host.Outcome State Fault Refusal :=
  .next (receiveFrame hardware .reset fb param tail s)

/-- PLAY (R312). -/
def execMsgPlay (fb : Byte) (param : Half) (tail : FrameTail) (s : State) : Host.Outcome State Fault Refusal :=
  .next (receiveFrame hardware .play fb param tail s)

/-- PAUSE (R313). -/
def execMsgPause (fb : Byte) (param : Half) (tail : FrameTail) (s : State) : Host.Outcome State Fault Refusal :=
  .next (receiveFrame hardware .pause fb param tail s)

/-- PLAY_FROM_FOLDER (R324). -/
def execMsgPlayFromFolder (fb : Byte) (param : Half) (tail : FrameTail) (s : State) : Host.Outcome State Fault Refusal :=
  .next (receiveFrame hardware .playFromFolder fb param tail s)

/-- PLAY_FROM_BIG_FOLDER (R325). -/
def execMsgPlayFromBigFolder (fb : Byte) (param : Half) (tail : FrameTail) (s : State) : Host.Outcome State Fault Refusal :=
  .next (receiveFrame hardware .playFromBigFolder fb param tail s)

/-- STOP (R314). -/
def execMsgStop (fb : Byte) (param : Half) (tail : FrameTail) (s : State) : Host.Outcome State Fault Refusal :=
  .next (receiveFrame hardware .stop fb param tail s)

/-- RANDOM (R316). -/
def execMsgRandom (fb : Byte) (param : Half) (tail : FrameTail) (s : State) : Host.Outcome State Fault Refusal :=
  .next (receiveFrame hardware .random fb param tail s)

/-- DAC_ENABLE (R321). -/
def execMsgDacEnable (fb : Byte) (param : Half) (tail : FrameTail) (s : State) : Host.Outcome State Fault Refusal :=
  .next (receiveFrame hardware .dacEnable fb param tail s)

end Sys2Proof.Machine
end

