-- ==== Sys2Proof/Machine/Notifications.lean ====
section
/-! DEFINITION. The meanings of the 8 notification and basic reply kinds (R330 to R337) as frames that arrive from the module. -/

namespace Sys2Proof.Machine

/-- DEVICE_INSERTED (R330). -/
def execMsgDeviceInserted (fb : Byte) (param : Half) (tail : FrameTail) (s : State) : Host.Outcome State Fault Refusal :=
  .next (receiveFrame hardware .deviceInserted fb param tail s)

/-- DEVICE_REMOVED (R331). -/
def execMsgDeviceRemoved (fb : Byte) (param : Half) (tail : FrameTail) (s : State) : Host.Outcome State Fault Refusal :=
  .next (receiveFrame hardware .deviceRemoved fb param tail s)

/-- FINISHED_USB (R332). -/
def execMsgFinishedUsb (fb : Byte) (param : Half) (tail : FrameTail) (s : State) : Host.Outcome State Fault Refusal :=
  .next (receiveFrame hardware .finishedUsb fb param tail s)

/-- FINISHED_SD (R333). -/
def execMsgFinishedSd (fb : Byte) (param : Half) (tail : FrameTail) (s : State) : Host.Outcome State Fault Refusal :=
  .next (receiveFrame hardware .finishedSd fb param tail s)

/-- FINISHED_FLASH (R334). -/
def execMsgFinishedFlash (fb : Byte) (param : Half) (tail : FrameTail) (s : State) : Host.Outcome State Fault Refusal :=
  .next (receiveFrame hardware .finishedFlash fb param tail s)

/-- INIT_COMPLETE (R335). -/
def execMsgInitComplete (fb : Byte) (param : Half) (tail : FrameTail) (s : State) : Host.Outcome State Fault Refusal :=
  .next (receiveFrame hardware .initComplete fb param tail s)

/-- ERROR (R336). -/
def execMsgError (fb : Byte) (param : Half) (tail : FrameTail) (s : State) : Host.Outcome State Fault Refusal :=
  .next (receiveFrame hardware .error fb param tail s)

/-- ACK (R337). -/
def execMsgAck (fb : Byte) (param : Half) (tail : FrameTail) (s : State) : Host.Outcome State Fault Refusal :=
  .next (receiveFrame hardware .ack fb param tail s)

end Sys2Proof.Machine
end

