-- ==== Sys2Proof/Machine/PortOps.lean ====
section
/-! DEFINITION. The meanings of the five port operations: POR, FEED, SEND, TICK, RESET. Each is accepted in every state and
ends in a next state (R409, R414). The value of `now` is the one the state holds on the `now` port (R49). -/

namespace Sys2Proof.Machine

/-- TICK (R185, R186): the level test of the timer; an expiry disarms and dispatches the synthetic event, in the order
DISARM_POINT says. -/
def tickTimer (c : Config) (s : State) : State :=
  if s.expired c then
    match c.disarmPoint with
    | .beforeDispatch => (dispatchTimeout c s.cancel).pushOut (.tick true)
    | .afterDispatch => (dispatchTimeout c s).cancel.pushOut (.tick true)
  else s.pushOut (.tick false)

/-- POR (R440). -/
def execPor (s : State) : Host.Outcome State Fault Refusal :=
  .next s.clearOut.powerOn

/-- FEED rx_byte (R141). -/
def execFeed (rxByte : Byte) (s : State) : Host.Outcome State Fault Refusal :=
  .next (feedByte hardware rxByte s.clearOut)

/-- SEND kind, param, fb (R183): transmits and arms T_DEFAULT whatever the operands and the state (D20). -/
def execSend (fb : Bool) (kind : Byte) (param : Half) (s : State) : Host.Outcome State Fault Refusal :=
  .next (txFrame hardware kind param fb hardware.tDefault s.clearOut)

/-- TICK (R185). -/
def execTick (s : State) : Host.Outcome State Fault Refusal :=
  .next (tickTimer hardware s.clearOut)

/-- RESET (R262). -/
def execReset (s : State) : Host.Outcome State Fault Refusal :=
  .next (restartBringup hardware s.clearOut)

end Sys2Proof.Machine
end

