-- ==== Sys2Proof/Machine/Queries.lean ====
section
/-! DEFINITION. The meanings of the 13 query kinds (R340 to R352) as frames that arrive from the module: a query's reply carries its kind.
The request is SEND of the kind, an entry action of the FSM, or a host call (Machine/HostSurface.lean). -/

namespace Sys2Proof.Machine

/-- Q_STATUS (R340). -/
def execMsgQStatus (fb : Byte) (param : Half) (tail : FrameTail) (s : State) : Host.Outcome State Fault Refusal :=
  .next (receiveFrame hardware .qStatus fb param tail s)

/-- Q_VOLUME (R341). -/
def execMsgQVolume (fb : Byte) (param : Half) (tail : FrameTail) (s : State) : Host.Outcome State Fault Refusal :=
  .next (receiveFrame hardware .qVolume fb param tail s)

/-- Q_EQUALIZER (R342). -/
def execMsgQEqualizer (fb : Byte) (param : Half) (tail : FrameTail) (s : State) : Host.Outcome State Fault Refusal :=
  .next (receiveFrame hardware .qEqualizer fb param tail s)

/-- Q_SEQUENCE (R343). -/
def execMsgQSequence (fb : Byte) (param : Half) (tail : FrameTail) (s : State) : Host.Outcome State Fault Refusal :=
  .next (receiveFrame hardware .qSequence fb param tail s)

/-- Q_FIRMWARE_VERSION (R344). -/
def execMsgQFirmwareVersion (fb : Byte) (param : Half) (tail : FrameTail) (s : State) : Host.Outcome State Fault Refusal :=
  .next (receiveFrame hardware .qFirmwareVersion fb param tail s)

/-- Q_FILE_COUNT_USB (R345). -/
def execMsgQFileCountUsb (fb : Byte) (param : Half) (tail : FrameTail) (s : State) : Host.Outcome State Fault Refusal :=
  .next (receiveFrame hardware .qFileCountUsb fb param tail s)

/-- Q_FILE_COUNT_SD (R346). -/
def execMsgQFileCountSd (fb : Byte) (param : Half) (tail : FrameTail) (s : State) : Host.Outcome State Fault Refusal :=
  .next (receiveFrame hardware .qFileCountSd fb param tail s)

/-- Q_FILE_COUNT_FLASH (R347). -/
def execMsgQFileCountFlash (fb : Byte) (param : Half) (tail : FrameTail) (s : State) : Host.Outcome State Fault Refusal :=
  .next (receiveFrame hardware .qFileCountFlash fb param tail s)

/-- Q_CURRENT_FILE_USB (R348). -/
def execMsgQCurrentFileUsb (fb : Byte) (param : Half) (tail : FrameTail) (s : State) : Host.Outcome State Fault Refusal :=
  .next (receiveFrame hardware .qCurrentFileUsb fb param tail s)

/-- Q_CURRENT_FILE_SD (R349). -/
def execMsgQCurrentFileSd (fb : Byte) (param : Half) (tail : FrameTail) (s : State) : Host.Outcome State Fault Refusal :=
  .next (receiveFrame hardware .qCurrentFileSd fb param tail s)

/-- Q_CURRENT_FILE_FLASH (R350). -/
def execMsgQCurrentFileFlash (fb : Byte) (param : Half) (tail : FrameTail) (s : State) : Host.Outcome State Fault Refusal :=
  .next (receiveFrame hardware .qCurrentFileFlash fb param tail s)

/-- Q_FOLDER_TRACK_COUNT (R351). -/
def execMsgQFolderTrackCount (fb : Byte) (param : Half) (tail : FrameTail) (s : State) : Host.Outcome State Fault Refusal :=
  .next (receiveFrame hardware .qFolderTrackCount fb param tail s)

/-- Q_FOLDER_COUNT (R352). -/
def execMsgQFolderCount (fb : Byte) (param : Half) (tail : FrameTail) (s : State) : Host.Outcome State Fault Refusal :=
  .next (receiveFrame hardware .qFolderCount fb param tail s)

end Sys2Proof.Machine
end

