-- ==== Sys2Proof/Machine/Dispatch.lean ====
section
/-! DEFINITION. One arm for each instruction, each one direct call of its meaning. -/

namespace Sys2Proof.Machine

def exec (i : Instr) (s : State) : Host.Outcome State Fault Refusal :=
  match i with
  | .por => Sys2Proof.Machine.execPor s
  | .feed rxByte => Sys2Proof.Machine.execFeed rxByte s
  | .send fb kind param => Sys2Proof.Machine.execSend fb kind param s
  | .tick => Sys2Proof.Machine.execTick s
  | .reset => Sys2Proof.Machine.execReset s
  | .msgNext fb param tail => Sys2Proof.Machine.execMsgNext fb param tail s
  | .msgPrevious fb param tail => Sys2Proof.Machine.execMsgPrevious fb param tail s
  | .msgVolume fb param tail => Sys2Proof.Machine.execMsgVolume fb param tail s
  | .msgEqualizer fb param tail => Sys2Proof.Machine.execMsgEqualizer fb param tail s
  | .msgLoop fb param tail => Sys2Proof.Machine.execMsgLoop fb param tail s
  | .msgSelectSource fb param tail => Sys2Proof.Machine.execMsgSelectSource fb param tail s
  | .msgSleep fb param tail => Sys2Proof.Machine.execMsgSleep fb param tail s
  | .msgWake fb param tail => Sys2Proof.Machine.execMsgWake fb param tail s
  | .msgReset fb param tail => Sys2Proof.Machine.execMsgReset fb param tail s
  | .msgPlay fb param tail => Sys2Proof.Machine.execMsgPlay fb param tail s
  | .msgPause fb param tail => Sys2Proof.Machine.execMsgPause fb param tail s
  | .msgPlayFromFolder fb param tail => Sys2Proof.Machine.execMsgPlayFromFolder fb param tail s
  | .msgPlayFromBigFolder fb param tail => Sys2Proof.Machine.execMsgPlayFromBigFolder fb param tail s
  | .msgStop fb param tail => Sys2Proof.Machine.execMsgStop fb param tail s
  | .msgRandom fb param tail => Sys2Proof.Machine.execMsgRandom fb param tail s
  | .msgDacEnable fb param tail => Sys2Proof.Machine.execMsgDacEnable fb param tail s
  | .msgDeviceInserted fb param tail => Sys2Proof.Machine.execMsgDeviceInserted fb param tail s
  | .msgDeviceRemoved fb param tail => Sys2Proof.Machine.execMsgDeviceRemoved fb param tail s
  | .msgFinishedUsb fb param tail => Sys2Proof.Machine.execMsgFinishedUsb fb param tail s
  | .msgFinishedSd fb param tail => Sys2Proof.Machine.execMsgFinishedSd fb param tail s
  | .msgFinishedFlash fb param tail => Sys2Proof.Machine.execMsgFinishedFlash fb param tail s
  | .msgInitComplete fb param tail => Sys2Proof.Machine.execMsgInitComplete fb param tail s
  | .msgError fb param tail => Sys2Proof.Machine.execMsgError fb param tail s
  | .msgAck fb param tail => Sys2Proof.Machine.execMsgAck fb param tail s
  | .msgQStatus fb param tail => Sys2Proof.Machine.execMsgQStatus fb param tail s
  | .msgQVolume fb param tail => Sys2Proof.Machine.execMsgQVolume fb param tail s
  | .msgQEqualizer fb param tail => Sys2Proof.Machine.execMsgQEqualizer fb param tail s
  | .msgQSequence fb param tail => Sys2Proof.Machine.execMsgQSequence fb param tail s
  | .msgQFirmwareVersion fb param tail => Sys2Proof.Machine.execMsgQFirmwareVersion fb param tail s
  | .msgQFileCountUsb fb param tail => Sys2Proof.Machine.execMsgQFileCountUsb fb param tail s
  | .msgQFileCountSd fb param tail => Sys2Proof.Machine.execMsgQFileCountSd fb param tail s
  | .msgQFileCountFlash fb param tail => Sys2Proof.Machine.execMsgQFileCountFlash fb param tail s
  | .msgQCurrentFileUsb fb param tail => Sys2Proof.Machine.execMsgQCurrentFileUsb fb param tail s
  | .msgQCurrentFileSd fb param tail => Sys2Proof.Machine.execMsgQCurrentFileSd fb param tail s
  | .msgQCurrentFileFlash fb param tail => Sys2Proof.Machine.execMsgQCurrentFileFlash fb param tail s
  | .msgQFolderTrackCount fb param tail => Sys2Proof.Machine.execMsgQFolderTrackCount fb param tail s
  | .msgQFolderCount fb param tail => Sys2Proof.Machine.execMsgQFolderCount fb param tail s

end Sys2Proof.Machine
end

