-- ==== Sys2Proof/Machine/Perform.lean ====
section
/-! DEFINITION. What every instruction does at any values of the parameters of R7. `exec` (Machine/Dispatch.lean) is this at the
values of this hardware. -/

namespace Sys2Proof.Machine

/-- The effect of an instruction on a block with these parameters. Every instruction has one in every state (R400,
R414). -/
def perform (c : Config) (i : Instr) (s : State) : State :=
  match i with
  | .por => s.clearOut.powerOn
  | .feed rxByte => feedByte c rxByte s.clearOut
  | .send fb kind param => txFrame c kind param fb c.tDefault s.clearOut
  | .tick => tickTimer c s.clearOut
  | .reset => restartBringup c s.clearOut
  | .msgNext fb param tail => receiveFrame c .next fb param tail s
  | .msgPrevious fb param tail => receiveFrame c .previous fb param tail s
  | .msgVolume fb param tail => receiveFrame c .volume fb param tail s
  | .msgEqualizer fb param tail => receiveFrame c .equalizer fb param tail s
  | .msgLoop fb param tail => receiveFrame c .loop fb param tail s
  | .msgSelectSource fb param tail => receiveFrame c .selectSource fb param tail s
  | .msgSleep fb param tail => receiveFrame c .sleep fb param tail s
  | .msgWake fb param tail => receiveFrame c .wake fb param tail s
  | .msgReset fb param tail => receiveFrame c .reset fb param tail s
  | .msgPlay fb param tail => receiveFrame c .play fb param tail s
  | .msgPause fb param tail => receiveFrame c .pause fb param tail s
  | .msgPlayFromFolder fb param tail => receiveFrame c .playFromFolder fb param tail s
  | .msgPlayFromBigFolder fb param tail => receiveFrame c .playFromBigFolder fb param tail s
  | .msgStop fb param tail => receiveFrame c .stop fb param tail s
  | .msgRandom fb param tail => receiveFrame c .random fb param tail s
  | .msgDacEnable fb param tail => receiveFrame c .dacEnable fb param tail s
  | .msgDeviceInserted fb param tail => receiveFrame c .deviceInserted fb param tail s
  | .msgDeviceRemoved fb param tail => receiveFrame c .deviceRemoved fb param tail s
  | .msgFinishedUsb fb param tail => receiveFrame c .finishedUsb fb param tail s
  | .msgFinishedSd fb param tail => receiveFrame c .finishedSd fb param tail s
  | .msgFinishedFlash fb param tail => receiveFrame c .finishedFlash fb param tail s
  | .msgInitComplete fb param tail => receiveFrame c .initComplete fb param tail s
  | .msgError fb param tail => receiveFrame c .error fb param tail s
  | .msgAck fb param tail => receiveFrame c .ack fb param tail s
  | .msgQStatus fb param tail => receiveFrame c .qStatus fb param tail s
  | .msgQVolume fb param tail => receiveFrame c .qVolume fb param tail s
  | .msgQEqualizer fb param tail => receiveFrame c .qEqualizer fb param tail s
  | .msgQSequence fb param tail => receiveFrame c .qSequence fb param tail s
  | .msgQFirmwareVersion fb param tail => receiveFrame c .qFirmwareVersion fb param tail s
  | .msgQFileCountUsb fb param tail => receiveFrame c .qFileCountUsb fb param tail s
  | .msgQFileCountSd fb param tail => receiveFrame c .qFileCountSd fb param tail s
  | .msgQFileCountFlash fb param tail => receiveFrame c .qFileCountFlash fb param tail s
  | .msgQCurrentFileUsb fb param tail => receiveFrame c .qCurrentFileUsb fb param tail s
  | .msgQCurrentFileSd fb param tail => receiveFrame c .qCurrentFileSd fb param tail s
  | .msgQCurrentFileFlash fb param tail => receiveFrame c .qCurrentFileFlash fb param tail s
  | .msgQFolderTrackCount fb param tail => receiveFrame c .qFolderTrackCount fb param tail s
  | .msgQFolderCount fb param tail => receiveFrame c .qFolderCount fb param tail s

end Sys2Proof.Machine
end

