-- ==== Sys2Proof/Machine/Fetch.lean ====
section
/-! DEFINITION. How the block takes its next operation, at any values of the parameters of R7. It fetches nothing from a memory (R32, R79): the host presents
operations in one total order (R80), held in `pending`, each with its value of `now` (log 2). -/

namespace Sys2Proof.Machine

/-- What the input port offers for one step. -/
inductive Fetched where
  /-- Nothing is presented: the block waits (R79, R440; log 3). -/
  | idle
  /-- The instruction the input decodes to. -/
  | instr (i : Instr)
  /-- A burst of bytes that is no row of the table: it is received byte by byte all the same (R108, R112; log 9). -/
  | bytes (bs : List Byte)
  /-- A reserved operation word (R110). -/
  | reserved (r : Refusal)
deriving DecidableEq, Repr

/-- The refusal of a reserved operation word (R110). -/
def opWordRefusal : DecodeError → Refusal
  | .reservedOpc => .reservedOpc
  | _ => .mustBeZero

/-- What one port input asks for. -/
def fetchInput (c : Config) (p : PortInput) : Fetched :=
  match decode c p with
  | .ok i => .instr i
  | .error e =>
    match p with
    | .op _ => .reserved (opWordRefusal e)
    | .rx bs => .bytes bs

/-- What the oldest presented operation asks for. -/
def fetch (c : Config) (s : State) : Fetched :=
  match s.pending with
  | [] => .idle
  | p :: _ => fetchInput c p.input

/-- The state with the oldest presented operation taken from the port and its `now` sampled (R49, R80). -/
def takeInput (c : Config) (s : State) : State :=
  match s.pending with
  | [] => s
  | p :: rest => s.take c p.now rest

/-- A burst of bytes that is no row of the table, received byte by byte (R112 FEEDS). -/
def receiveBytes (c : Config) (bs : List Byte) (s : State) : State :=
  feedBytes c bs s.clearOut

/-- One step of a block with these parameters whose instructions are performed by `run`: the oldest presented operation is
taken and performed. With nothing presented the block waits, unchanged (R441). A reserved word is refused (R110). -/
def stepBy (c : Config) (run : Instr → State → Host.Outcome State Fault Refusal) (s : State) :
    Host.Outcome State Fault Refusal :=
  match fetch c s with
  | .idle => .next s
  | .instr i => run i (takeInput c s)
  | .bytes bs => .next (receiveBytes c bs (takeInput c s))
  | .reserved r => .refused r

/-- One step of the block with any values of the parameters of R7. -/
def stepWith (c : Config) (s : State) : Host.Outcome State Fault Refusal := stepBy c (fun i t => .next (perform c i t)) s

/-- The input is presented before everything else the port holds, at the `now` the port shows. -/
def presentFirst (inp : PortInput) (s : State) : State :=
  { s with pending := ⟨s.now, inp⟩ :: s.pending }

end Sys2Proof.Machine
end

