-- ==== Sys2Proof/Machine/Step.lean ====
section
/-! DEFINITION. One step of this hardware. -/

namespace Sys2Proof.Machine

/-- One step of this hardware, the block at the values R7 fixes. -/
def step (s : State) : Host.Outcome State Fault Refusal := stepBy hardware exec s

/-- The state with one word of the opcode table presented for the very next step (log 2, log 13). -/
def State.withFetchWord (s : State) (nbits w : Nat) : State :=
  presentFirst (tableInput nbits w) s

end Sys2Proof.Machine
end

