-- ==== Sys2Proof/Machine/Assembler.lean ====
section
/-! DEFINITION. The written form of operations: pseudo-operations and their expansions (R112, R188) and the assembler
line (R111). It is a notation for lists of presented operations, no part of `step` (log 16). -/

namespace Sys2Proof.Machine

/-- One line: an operation or a pseudo-operation (R111, R112). -/
inductive AsmOp where
  | por
  | feed (b : Byte)
  | send (kind : Byte) (param : Half) (fb : Bool)
  | tick
  | reset
  | feeds (bs : List Byte)
  | rxFrame (kind : Byte) (param : Half) (fb : Bool)
  | rxShort (kind fb : Byte) (param : Half)
  | update (bs : List Byte)
  | cmd (k : Kind) (param : Half)
  | query (k : Kind)
deriving DecidableEq, Repr

/-- A FEED for each byte. -/
def feedOps (bs : List Byte) : List Instr := bs.map .feed

/-- The operations a line expands to (R112). -/
def expandAsm (c : Config) : AsmOp → List Instr
  | .por => [.por]
  | .feed b => [.feed b]
  | .send kind param fb => [.send fb kind param]
  | .tick => [.tick]
  | .reset => [.reset]
  | .feeds bs => feedOps bs
  | .rxFrame kind param fb => feedOps (encodeFrame c kind param fb)
  | .rxShort kind fb param =>
    feedOps [startByte, verByte, lenByte, kind, fb, hiByte param, loByte param, endByte]
  | .update bs => feedOps bs ++ [.tick]
  | .cmd k param => [.send fbCmd (c.kind k) param]
  | .query k => [.send fbQuery (c.kind k) 0]

/-- What the host presents for a line at time `t`: every operation takes the line's `now` (R112). -/
def asmInputs (c : Config) (t : Nat) (a : AsmOp) : List PortOp :=
  (expandAsm c a).map fun i => ⟨t, encode c i⟩

/-- The symbolic name of a kind in the written form (R300). -/
def kindName : Kind → String
  | .next => "NEXT"
  | .previous => "PREVIOUS"
  | .volume => "VOLUME"
  | .equalizer => "EQUALIZER"
  | .loop => "LOOP"
  | .selectSource => "SELECT_SOURCE"
  | .sleep => "SLEEP"
  | .wake => "WAKE"
  | .reset => "RESET"
  | .play => "PLAY"
  | .pause => "PAUSE"
  | .playFromFolder => "PLAY_FROM_FOLDER"
  | .playFromBigFolder => "PLAY_FROM_BIG_FOLDER"
  | .stop => "STOP"
  | .random => "RANDOM"
  | .dacEnable => "DAC_ENABLE"
  | .deviceInserted => "DEVICE_INSERTED"
  | .deviceRemoved => "DEVICE_REMOVED"
  | .finishedUsb => "FINISHED_USB"
  | .finishedSd => "FINISHED_SD"
  | .finishedFlash => "FINISHED_FLASH"
  | .initComplete => "INIT_COMPLETE"
  | .error => "ERROR"
  | .ack => "ACK"
  | .qStatus => "Q_STATUS"
  | .qVolume => "Q_VOLUME"
  | .qEqualizer => "Q_EQUALIZER"
  | .qSequence => "Q_SEQUENCE"
  | .qFirmwareVersion => "Q_FIRMWARE_VERSION"
  | .qFileCountUsb => "Q_FILE_COUNT_USB"
  | .qFileCountSd => "Q_FILE_COUNT_SD"
  | .qFileCountFlash => "Q_FILE_COUNT_FLASH"
  | .qCurrentFileUsb => "Q_CURRENT_FILE_USB"
  | .qCurrentFileSd => "Q_CURRENT_FILE_SD"
  | .qCurrentFileFlash => "Q_CURRENT_FILE_FLASH"
  | .qFolderTrackCount => "Q_FOLDER_TRACK_COUNT"
  | .qFolderCount => "Q_FOLDER_COUNT"

/-- The words of a line: separated by blanks and commas, up to a comment (R111). `acc` holds the word being read, last
character first. -/
def asmTokens : List Char → List Char → List (List Char)
  | [], acc => if acc.isEmpty then [] else [acc.reverse]
  | ch :: rest, acc =>
    if ch = ';' then (if acc.isEmpty then [] else [acc.reverse])
    else if ch = ' ' ∨ ch = ',' ∨ ch = '\t' then
      (if acc.isEmpty then [] else [acc.reverse]) ++ asmTokens rest []
    else asmTokens rest (ch :: acc)

/-- The value of a digit in a base up to 16. -/
def digitValue (base : Nat) (ch : Char) : Option Nat :=
  let n := ch.toNat
  let v :=
    if 48 ≤ n ∧ n ≤ 57 then n - 48
    else if 65 ≤ n ∧ n ≤ 70 then n - 55
    else if 97 ≤ n ∧ n ≤ 102 then n - 87
    else 16
  if v < base then some v else none

/-- The value of a digit string that continues `acc`. -/
def digitsValue (base : Nat) : List Char → Nat → Option Nat
  | [], acc => some acc
  | ch :: rest, acc =>
    match digitValue base ch with
    | some v => digitsValue base rest (acc * base + v)
    | none => none

/-- A literal: decimal, or hexadecimal after 0x (R111). -/
def literal? : List Char → Option Nat
  | [] => none
  | ['0', 'x'] => none
  | '0' :: 'x' :: ds => digitsValue 16 ds 0
  | ds => digitsValue 10 ds 0

/-- A literal that fits a field of `w` bits. -/
def bitsLiteral? (w : Nat) (tok : List Char) : Option (BitVec w) :=
  match literal? tok with
  | some n => if n < 2 ^ w then some (BitVec.ofNat w n) else none
  | none => none

/-- A literal that is a value of `now` (R111): CLK_W bits. -/
def timeLiteral? (c : Config) (tok : List Char) : Option Nat :=
  match literal? tok with
  | some n => if n < 2 ^ c.clkW then some n else none
  | none => none

/-- A kind's symbolic name (R111). -/
def kindNamed? (tok : List Char) : Option Kind :=
  kindList.find? fun k => (kindName k).toList == tok

/-- A kind operand: an 8-bit literal, or a symbolic name standing for KIND(name) (R111). -/
def kindToken? (c : Config) (tok : List Char) : Option Byte :=
  match kindNamed? tok with
  | some k => some (c.kind k)
  | none => bitsLiteral? 8 tok

/-- A feedback operand: 0 or 1 (R111). -/
def fbToken? (tok : List Char) : Option Bool :=
  match literal? tok with
  | some 0 => some false
  | some 1 => some true
  | _ => none

/-- A list of byte operands. -/
def byteTokens? : List (List Char) → Option (List Byte)
  | [] => some []
  | tok :: rest =>
    match bitsLiteral? 8 tok, byteTokens? rest with
    | some b, some bs => some (b :: bs)
    | _, _ => none

/-- The operation a line's words name after its `@<now>` (R111, R112). The `<fb>` of SEND and RXFRAME is R111's 0 or 1;
the one of RXSHORT is taken as any 8-bit literal, because R112 writes it into the frame as a byte and the test vector
F15 uses 0x02 (DESIGN CHOICE, log 16). -/
def parseAsmOp (c : Config) (name : List Char) (args : List (List Char)) : Option AsmOp :=
  if name = "FEED".toList then
    match args with
    | [b] => (bitsLiteral? 8 b).map .feed
    | _ => none
  else if name = "SEND".toList then
    match args with
    | [k, p, f] =>
      match kindToken? c k, bitsLiteral? 16 p, fbToken? f with
      | some k, some p, some f => some (.send k p f)
      | _, _, _ => none
    | _ => none
  else if name = "TICK".toList then (if args = [] then some .tick else none)
  else if name = "RESET".toList then (if args = [] then some .reset else none)
  else if name = "FEEDS".toList then (byteTokens? args).map .feeds
  else if name = "RXFRAME".toList then
    match args with
    | [k, p, f] =>
      match kindToken? c k, bitsLiteral? 16 p, fbToken? f with
      | some k, some p, some f => some (.rxFrame k p f)
      | _, _, _ => none
    | _ => none
  else if name = "RXSHORT".toList then
    match args with
    | [k, f, p] =>
      match kindToken? c k, bitsLiteral? 8 f, bitsLiteral? 16 p with
      | some k, some f, some p => some (.rxShort k f p)
      | _, _, _ => none
    | _ => none
  else if name = "UPDATE".toList then (byteTokens? args).map .update
  else if name = "CMD".toList then
    match args with
    | [k, p] =>
      match kindNamed? k, bitsLiteral? 16 p with
      | some k, some p => some (.cmd k p)
      | _, _ => none
    | _ => none
  else if name = "QUERY".toList then
    match args with
    | [k] => (kindNamed? k).map .query
    | _ => none
  else none

/-- One line of the written form, as what the host presents for it: none if it is no line of R111 or R112. POR ignores
`now` and is written without it. -/
def assembleLine (c : Config) (line : List Char) : Option (List PortOp) :=
  match asmTokens line [] with
  | [] => some []
  | ('@' :: t) :: name :: args =>
    match timeLiteral? c t, parseAsmOp c name args with
    | some now, some a => some (asmInputs c now a)
    | _, _ => none
  | [name] => if name = "POR".toList then some (asmInputs c 0 .por) else none
  | _ => none

end Sys2Proof.Machine
end

