-- ==== Sys2Proof/Machine/HostSurface.lean ====
section
/-! DEFINITION. The host request surface (spec/45_host_surface.md), outside the block (R5(e)): each host call becomes at
most one block operation. It is no state and no part of `step` (log 12). -/

namespace Sys2Proof.Machine

/-- The host calls of R380. Volume is a signed integer of any size (R381), folder and track are non-negative integers
(R382), the other operands are 16-bit values passed unchanged. -/
inductive HostCall where
  | next
  | previous
  | play
  | pause
  | stop
  | loop (p : Half)
  | random
  | setVolume (v : Int)
  | setEqualizer (e : Half)
  | sleep
  | wake
  | enableDAC (p : Half)
  | selectSource (d : Device)
  | playTrack (folder track : Nat)
  | queryStatus
  | queryVolume
  | queryEqualizer
  | querySequence
  | queryFirmwareVersion
  | queryFileCount (d : DevF)
  | queryCurrentFile (d : DevF)
  | queryFolderTrackCount (f : Half)
  | queryFolderCount
  | reset
deriving DecidableEq, Repr

/-- CLAMP_VOL (R381). -/
def clampVol (c : Config) (v : Int) : Int :=
  if v < 0 then 0 else if v > (c.volMax : Int) then (c.volMax : Int) else v

/-- A command request: feedback 1 (R383). -/
def command (c : Config) (k : Kind) (param : Half) : Option Instr := some (.send fbCmd (c.kind k) param)

/-- A query request: feedback 0 (R383). -/
def query (c : Config) (k : Kind) (param : Half) : Option Instr := some (.send fbQuery (c.kind k) param)

/-- playTrack (R382): the small folder encoding for every track below 256, else the big one where folder and track are
in its range, else no operation (R384). -/
def playTrack (c : Config) (folder track : Nat) : Option Instr :=
  if track < 256 then command c .playFromFolder (BitVec.ofNat 16 (folder <<< 8 ||| track))
  else if folder < 16 ∧ track ≤ 3000 then command c .playFromBigFolder (BitVec.ofNat 16 (folder <<< 12 ||| track))
  else none

/-- The file-count query of a device (R345 to R347). -/
def fileCountKind : DevF → Kind
  | .usb => .qFileCountUsb
  | .sd => .qFileCountSd
  | .flash => .qFileCountFlash

/-- The current-file query of a device (R348 to R350). -/
def currentFileKind : DevF → Kind
  | .usb => .qCurrentFileUsb
  | .sd => .qCurrentFileSd
  | .flash => .qCurrentFileFlash

/-- The block operation a host call becomes (R380). -/
def hostOp (c : Config) : HostCall → Option Instr
  | .next => command c .next 0
  | .previous => command c .previous 0
  | .play => command c .play 0
  | .pause => command c .pause 0
  | .stop => command c .stop 0
  | .loop p => command c .loop p
  | .random => command c .random 0
  | .setVolume v => command c .volume (BitVec.ofInt 16 (clampVol c v))
  | .setEqualizer e => command c .equalizer e
  | .sleep => command c .sleep 0
  | .wake => command c .wake 0
  | .enableDAC p => command c .dacEnable p
  | .selectSource d => command c .selectSource (c.device d)
  | .playTrack folder track => playTrack c folder track
  | .queryStatus => query c .qStatus 0
  | .queryVolume => query c .qVolume 0
  | .queryEqualizer => query c .qEqualizer 0
  | .querySequence => query c .qSequence 0
  | .queryFirmwareVersion => query c .qFirmwareVersion 0
  | .queryFileCount d => query c (fileCountKind d) 0
  | .queryCurrentFile d => query c (currentFileKind d) 0
  | .queryFolderTrackCount f => query c .qFolderTrackCount f
  | .queryFolderCount => query c .qFolderCount 0
  | .reset => some .reset

/-- A host call issued at time `t`, as what the host presents: at most one operation, at the same `now` (R380). -/
def hostCallInputs (c : Config) (t : Nat) (call : HostCall) : List PortOp :=
  match hostOp c call with
  | some i => [⟨t, encode c i⟩]
  | none => []

end Sys2Proof.Machine
end

