-- ==== Sys2Proof/Safety.lean ====
section
/-! DEFINITION. What counts as a good run, in the terms claims use: the duties of the host and the environment, which the
block does not check (R386, R443 to R450), and the conditions a host reads off the status outputs. -/

namespace Sys2Proof.Machine

/-- `now` goes forward, passing through 2^CLK_W included (R447). -/
def nowForward (c : Config) (prev next : Nat) : Bool := decide (elapsed c next prev < 2 ^ (c.clkW - 1))

/-- No request is outstanding (R443): the last one has ended, and `busy` is 0. -/
def noRequestOutstanding (s : State) : Bool := !s.tmrArmed

/-- The host may issue SEND: bring-up is not active (R444) and no request is outstanding (R443). -/
def maySend (s : State) : Bool := decide (s.fsmState = .none) && noRequestOutstanding s

/-- The duties of R443 and R444 for one instruction: they bind SEND alone. -/
def respectsRequestDuty (i : Instr) (s : State) : Bool :=
  match i with
  | .send _ _ _ => maySend s
  | _ => true

/-- RESET is issued when no request is outstanding, which R450 advises. -/
def resetAdvised (s : State) : Bool := noRequestOutstanding s

/-- A TICK at `t` falls in the window in which the armed deadline's expiry is seen (R190, R445). -/
def tickInWindow (c : Config) (t : Nat) (s : State) : Bool :=
  decide (elapsed c t s.tmrDeadline < 2 ^ (c.clkW - 1))

/-- Bring-up has ended (R442). -/
def bringupEnded (s : State) : Bool := decide (s.result ≠ .inProgress)

/-- Bring-up is stuck: state 5, 6 or 7 with `busy` = 0, which only the expected reply or a RESET leaves (R265, R448). -/
def bringupStuck (s : State) : Bool :=
  (decide (s.fsmState = .selectingUsb) || decide (s.fsmState = .selectingSd) ||
    decide (s.fsmState = .checkingFolderCount)) && !s.tmrArmed

/-- The parser resynchronises on the next START byte: RX_CUR is 0, 1 or 2 (R150). -/
def parserOpen (s : State) : Bool :=
  decide (s.rxCur = .at0) || decide (s.rxCur = .at1) || decide (s.rxCur = .at2)

/-- A tail that makes a frame of these bytes complete valid: a short frame (R101, R148), or a checksum that satisfies
R103 and whose high byte is not END, so that the frame is not cut short at offset 7 (R145). -/
def tailAccepted (c : Config) (kind fb : Byte) (param : Half) : FrameTail → Bool
  | .short => true
  | .full chk =>
    hiByte chk != endByte && checksumSum c kind fb (hiByte param) (loByte param) + chk == 0

/-- The receive buffer after the bytes of a frame have been stored (R144, R145): a short frame writes no checksum
cell. -/
def receivedBuf (kind fb : Byte) (param : Half) (tail : FrameTail) (buf : RxBuf) : RxBuf :=
  match tail with
  | .short => { buf with kind := kind, fb := fb, paramHi := hiByte param, paramLo := loByte param }
  | .full chk => ⟨kind, fb, hiByte param, loByte param, hiByte chk, loByte chk⟩

/-- The step outputs of the FEEDs of one frame, its last byte completing it with this frame_ok (R45, R105). -/
def frameOutputs (ok : Bool) (tail : FrameTail) : List StepOutput :=
  match tail with
  | .short => List.replicate 7 (.feed false false) ++ [.feed true ok]
  | .full _ => List.replicate 9 (.feed false false) ++ [.feed true ok]

/-- The state in which the parser has taken a whole frame and nothing else has happened yet: the cursor is back at 0. -/
def frameTaken (ok : Bool) (kind fb : Byte) (param : Half) (tail : FrameTail) (s : State) : State :=
  { s with rxCur := .at0, rxBuf := receivedBuf kind fb param tail s.rxBuf, stepOut := frameOutputs ok tail }

/-- The edges of the transition graph (R263), with the state unchanged counted in. -/
def fsmEdge : FsmState → FsmState → Bool
  | .none, t => decide (t = .none)
  | .resettingHardware, t =>
    decide (t = .resettingHardware) || decide (t = .gettingVersion) || decide (t = .none)
  | .gettingVersion, t => decide (t = .gettingVersion) || decide (t = .checkingUsbFileCount)
  | .checkingUsbFileCount, t =>
    decide (t = .checkingUsbFileCount) || decide (t = .selectingUsb) || decide (t = .checkingSdFileCount)
  | .checkingSdFileCount, t =>
    decide (t = .checkingSdFileCount) || decide (t = .selectingSd) || decide (t = .none)
  | .selectingUsb, t => decide (t = .selectingUsb) || decide (t = .checkingFolderCount)
  | .selectingSd, t => decide (t = .selectingSd) || decide (t = .checkingFolderCount)
  | .checkingFolderCount, t => decide (t = .checkingFolderCount) || decide (t = .none)

/-- A selected device is on record: the folder-count probe is running, or bring-up ended READY (R40). -/
def deviceOnRecord (s : State) : Prop := s.fsmState = .checkingFolderCount ∨ s.result = .ready

/-- A file count is on record: a source is being or has been selected (R41). -/
def fileCountOnRecord (s : State) : Prop :=
  s.fsmState = .selectingUsb ∨ s.fsmState = .selectingSd ∨ deviceOnRecord s

/-- What the bring-up registers say of each other in every run: RESULT is IN_PROGRESS exactly while a state is active
(R39, R442); states 1 to 4 have their deadline armed (R264); SEL_DEVICE, FILE_COUNT and FOLDER_COUNT hold what R40,
R41 and R42 let them hold. -/
def BringupConsistent (c : Config) (s : State) : Prop :=
  (s.result = .inProgress ↔ s.fsmState ≠ .none) ∧
  (s.fsmState = .resettingHardware ∨ s.fsmState = .gettingVersion ∨ s.fsmState = .checkingUsbFileCount ∨
    s.fsmState = .checkingSdFileCount → s.tmrArmed = true) ∧
  (deviceOnRecord s → s.selDevice = c.device .usb ∨ s.selDevice = c.device .sd) ∧
  (¬ deviceOnRecord s → s.selDevice = 0) ∧
  (fileCountOnRecord s → s.fileCount ≠ 0) ∧
  (¬ fileCountOnRecord s → s.fileCount = 0) ∧
  (s.result ≠ .ready → s.folderCount = 0)

/-- The deadline and the sampled `now` are values of CLK_W bits (R37, R48). -/
def TimesInRange (c : Config) (s : State) : Prop := s.tmrDeadline < 2 ^ c.clkW ∧ s.now < 2 ^ c.clkW

/-- A request as TX_FRAME takes it: kind, parameter, feedback. -/
structure Request where
  kind : Byte
  param : Half
  fb : Bool
deriving DecidableEq, Repr

/-- The bytes of a sequence of encoded frames. -/
def framesOf (c : Config) (rs : List Request) : List Byte := (rs.map fun r => encodeFrame c r.kind r.param r.fb).flatten

/-- TX_LOG is a sequence of whole encoded frames (R43, R72), at least one of them if a deadline is armed. -/
def TxFramed (c : Config) (s : State) : Prop :=
  ∃ rs : List Request, s.txLog = framesOf c rs ∧ (s.tmrArmed = true → rs ≠ [])

/-- The last BRINGUP_END in a notification log, if there is one. -/
def lastEnd (log : List Notification) : Option EndResult :=
  log.reverse.findSome? fun n =>
    match n with
    | .bringupEnd r => some r
    | _ => none

/-- RESULT READY, NO_SOURCE or FAILED is what the last BRINGUP_END reported (R39, R253). -/
def ResultReported (s : State) : Prop :=
  ∀ r : EndResult, s.result = endResultValue r → lastEnd s.sinkLog = some r

/-- Two receive buffers agree on the cells that the frame being received has written (R34, R143). -/
def cellsAgree (cur : RxCursor) (a b : RxBuf) : Prop :=
  (4 ≤ (cursorCode cur).toNat → a.kind = b.kind) ∧
  (5 ≤ (cursorCode cur).toNat → a.fb = b.fb) ∧
  (6 ≤ (cursorCode cur).toNat → a.paramHi = b.paramHi) ∧
  (7 ≤ (cursorCode cur).toNat → a.paramLo = b.paramLo) ∧
  (8 ≤ (cursorCode cur).toNat → a.chkHi = b.chkHi) ∧
  (9 ≤ (cursorCode cur).toNat → a.chkLo = b.chkLo)

/-- Two states differ only in what R34 and R37 call unobservable: receive cells that the frame being received has not
written, and the deadline while disarmed. -/
def ObsEq (s t : State) : Prop :=
  t = { s with rxBuf := t.rxBuf, tmrDeadline := t.tmrDeadline } ∧
  cellsAgree s.rxCur s.rxBuf t.rxBuf ∧
  (s.tmrArmed = true → s.tmrDeadline = t.tmrDeadline)

/-- Two outcomes show the same: both next states that differ only in what is unobservable, or the same stop. -/
def SameOutcome : Host.Outcome State Fault Refusal → Host.Outcome State Fault Refusal → Prop
  | .next s, .next t => ObsEq s t
  | .refused r, .refused r' => r = r'
  | _, _ => False

/-- Instructions performed one after the other, at the `now` the port shows; none if one does not end in a next
state. -/
def execAll : List Instr → State → Option State
  | [], s => some s
  | i :: rest, s =>
    match exec i s with
    | .next t => execAll rest t
    | .fault _ => none
    | .refused _ => none

/-- The step outputs of the same instructions, those of each after those of the one before (R45). -/
def execOutputs : List Instr → State → Option (List StepOutput)
  | [], _ => some []
  | i :: rest, s =>
    match exec i s with
    | .next t => (execOutputs rest t).map (t.stepOut ++ ·)
    | .fault _ => none
    | .refused _ => none

end Sys2Proof.Machine
end

