-- ==== Sys2Proof/Certificates/Slice0/Obligations.lean ====
section
/-! DEFINITION. The statements for the provers. Each says what the block does by the numbered rules of spec/; where one rests
on a choice of the model, its docstring names the log entry. -/

open Sys2Proof Sys2Proof.Machine

/-- Decode and encode agree on all 42 instructions (R100, R101, R109, R110). The reading of a frame10 row as a frame that arrives is the model's (log 1). -/
def Obligations.DecodeOfEncodeIsTheInstruction : Prop :=
  ∀ (c : Config) (i : Instr), c.Valid → i.wf = true → decode c (encode c i) = .ok i

/-- Each word has one meaning (R100, R101, R109, R110). -/
def Obligations.EncodeOfDecodeIsTheInput : Prop :=
  ∀ (c : Config) (p : PortInput) (i : Instr), decode c p = .ok i → encode c i = p

/-- R110: the match and mask table of the operation word; a reserved word is refused, so it gives no next state (log 8). -/
def Obligations.OperationWordRowsAndReservedWords : Prop :=
  ∀ (c : Config) (w : OpWord),
    (w = 0x00000000 → decode c (.op w) = .ok .por) ∧
    (w &&& 0xFFFFFF00 = 0x10000000 → decode c (.op w) = .ok (.feed (w.extractLsb' 0 8))) ∧
    (w &&& 0xFE000000 = 0x20000000 →
      decode c (.op w) = .ok (.send (w.getLsbD 24) (w.extractLsb' 16 8) (w.extractLsb' 0 16))) ∧
    (w = 0x30000000 → decode c (.op w) = .ok .tick) ∧
    (w = 0x40000000 → decode c (.op w) = .ok .reset) ∧
    (w ≠ 0x00000000 ∧ w &&& 0xFFFFFF00 ≠ 0x10000000 ∧ w &&& 0xFE000000 ≠ 0x20000000 ∧ w ≠ 0x30000000 ∧
        w ≠ 0x40000000 →
      (∀ i, decode c (.op w) ≠ .ok i) ∧
      ∀ (s : State) (t : Nat) (rest : List PortOp),
        s.pending = ⟨t, .op w⟩ :: rest → ∃ r, step s = .refused r ∧ stepWith c s = .refused r)

/-- Sanity: words of spec/95_test_vectors.md (L2.1, L2.9). The kind codes are the default parameter values (log 6). -/
def Obligations.SampleWordsDecode : Prop :=
  decodeTableWord 32 0x00000000 = some .por ∧
  decodeTableWord 32 0x1000007E = some (.feed 0x7E) ∧
  decodeTableWord 32 0x2106001E = some (.send true 0x06 0x001E) ∧
  decodeTableWord 32 0x21141100 = some (.send true 0x14 0x1100) ∧
  decodeTableWord 32 0x30000000 = some .tick ∧
  decodeTableWord 32 0x40000000 = some .reset ∧
  decodeTableWord 80 0x7EFF06010100_00FFFEEF = some (.msgNext 0x01 0x0000 (.full 0xFFFE)) ∧
  decodeTableWord 80 0x7EFF063F0000_03FFBEEF = some (.msgInitComplete 0x00 0x0003 (.full 0xFFBE)) ∧
  decodeTableWord 80 0x7EFF06430000_1EFF9FEF = some (.msgQVolume 0x00 0x001E (.full 0xFF9F)) ∧
  decodeTableWord 64 0x7EFF0641000000EF = some (.msgAck 0x00 0x0000 .short) ∧
  decodeTableWord 32 0x50000000 = none ∧
  decodeTableWord 32 0x10000100 = none ∧
  decodeTableWord 32 0x22000000 = none

/-- Operations take effect in the order the host presents them (R80), each with the `now` sampled at its start (R49). The input list is the model's form of the ports (log 2). -/
def Obligations.StepRunsTheDecodedInstruction : Prop :=
  ∀ (s : State) (p : PortOp) (rest : List PortOp) (i : Instr), s.pending = p :: rest →
    (decode hardware p.input = .ok i →
      step s = exec i { s with now := p.now % 2 ^ hardware.clkW, pending := rest }) ∧
    ∀ c : Config, decode c p.input = .ok i →
      stepWith c s = .next (perform c i { s with now := p.now % 2 ^ c.clkW, pending := rest })

/-- The block does nothing on its own (R441). That a waiting step is a next state is the model's choice (log 3). -/
def Obligations.StepWithNothingPresentedWaits : Prop :=
  ∀ s : State, s.pending = [] → step s = .next s

/-- No byte sequence is illegal (R108); FEEDS is a FEED for each byte (R112). The burst as one input is the model's (log 2, log 9). -/
def Obligations.StepReceivesAnyBurst : Prop :=
  ∀ (s : State) (t : Nat) (bs : List Byte) (rest : List PortOp),
    s.pending = ⟨t, .rx bs⟩ :: rest →
      step s = .next
        (feedBytes hardware bs { s with now := t % 2 ^ hardware.clkW, pending := rest, stepOut := [] })

/-- R112 RXFRAME and RXSHORT, R303: the block receives every kind through FEED. The message instruction as one step is the model's (log 1). -/
def Obligations.MessageInstructionIsItsFeeds : Prop :=
  ∀ (i : Instr) (f : MsgFrame) (s : State), msgFrame? i = some f →
    let feeds : List Instr := (frameBytes (hardware.kind f.kind) f.fb f.param f.tail).map .feed
    ∃ (t u : State) (outs : List StepOutput), exec i s = .next t ∧ execAll feeds s = some u ∧
      execOutputs feeds s = some outs ∧ outs.length = feeds.length ∧
      { t with stepOut := u.stepOut } = u ∧ t.stepOut = outs ∧ u.stepOut = outs.drop (outs.length - 1)

/-- No operation faults, none is refused, none is stuck (R400, R409, R414). `perform` and `stepWith` take the parameters of R7 as an argument. -/
def Obligations.EveryInstructionCompletes : Prop :=
  (∀ (i : Instr) (s : State), ∃ t, exec i s = .next t ∧ t.now = s.now ∧ t.pending = s.pending) ∧
  (∀ (i : Instr) (s : State), exec i s = .next (perform hardware i s)) ∧
  (∀ (c : Config) (i : Instr) (s : State), (perform c i s).now = s.now ∧ (perform c i s).pending = s.pending) ∧
  ∀ s : State, step s = stepWith hardware s

/-- R440 (the spec's decision D18), and the status outputs of R46 with the codes of R38 and R39. The port fields are the model's (log 14). -/
def Obligations.PorLeavesTheResetValues : Prop :=
  (∀ s : State, exec .por s = .next
    { rxCur := .at0, rxBuf := ⟨0, 0, 0, 0, 0, 0⟩, tmrArmed := false, tmrDeadline := 0, fsmState := .none,
      result := .notStarted, selDevice := 0, fileCount := 0, folderCount := 0, txLog := [], sinkLog := [],
      now := s.now, pending := s.pending, stepOut := [] }) ∧
  (∀ s t : State, exec .por s = .next t → t.status = ⟨0, 0, 0, 0, 0, false⟩) ∧
  (∀ s : State,
    (s.fsmState = .none → s.status.state = 0) ∧
    (s.fsmState = .resettingHardware → s.status.state = 1) ∧
    (s.fsmState = .gettingVersion → s.status.state = 2) ∧
    (s.fsmState = .checkingUsbFileCount → s.status.state = 3) ∧
    (s.fsmState = .checkingSdFileCount → s.status.state = 4) ∧
    (s.fsmState = .selectingUsb → s.status.state = 5) ∧
    (s.fsmState = .selectingSd → s.status.state = 6) ∧
    (s.fsmState = .checkingFolderCount → s.status.state = 7) ∧
    (s.result = .notStarted → s.status.result = 0) ∧
    (s.result = .inProgress → s.status.result = 1) ∧
    (s.result = .ready → s.status.result = 2) ∧
    (s.result = .noSource → s.status.result = 3) ∧
    (s.result = .failed → s.status.result = 4) ∧
    s.status.device = s.selDevice ∧ s.status.fileCount = s.fileCount ∧ s.status.folderCount = s.folderCount ∧
    s.status.busy = s.tmrArmed) ∧
  exec .por State.reset = .next State.reset

/-- R183, R184: SEND is TX_FRAME with T_DEFAULT; it consults neither FSM_STATE nor TMR_ARMED (the spec's decision D20). -/
def Obligations.SendTransmitsAndArms : Prop :=
  ∀ (fb : Bool) (kind : Byte) (param : Half) (s : State),
    exec (.send fb kind param) s = .next
      { s with
        txLog := s.txLog ++ encodeFrame hardware kind param fb
        tmrArmed := true
        tmrDeadline := (s.now + hardware.tDefault) % 2 ^ hardware.clkW
        stepOut := [] } ∧
    ∀ t, exec (.send fb kind param) s = .next t → t.status.busy = true

/-- R262 (with the spec's decision D17 on what else RESET clears and keeps). -/
def Obligations.ResetRestartsBringup : Prop :=
  ∀ s : State,
    exec .reset s = .next
      { s with
        fsmState := .resettingHardware
        result := .inProgress
        selDevice := 0
        fileCount := 0
        folderCount := 0
        txLog := s.txLog ++ encodeFrame hardware (hardware.kind .reset) 0 true
        tmrArmed := true
        tmrDeadline := (s.now + hardware.tReset) % 2 ^ hardware.clkW
        stepOut := [] }

/-- R190, which the spec derives from R180 and R181. Times are numbers of CLK_W bits (log 5). -/
def Obligations.ExpiryWindowOfADeadline : Prop :=
  (∀ (c : Config) (s : State) (t0 t : Nat) (d : Nat), d < 2 ^ (c.clkW - 1) →
    let delta : Int := ((t : Int) - t0) % 2 ^ c.clkW
    (({ ({ s with now := t0 } : State).arm c d with now := t } : State).expired c = true ↔
      (d : Int) ≤ delta ∧ delta ≤ d + 2 ^ (c.clkW - 1) - 1)) ∧
  ∀ (c : Config) (s : State), s.tmrArmed = false → s.expired c = false

/-- The timer primitives (R180, with the spec's decision D36; R181, with D3; R182) and signed_CLK_W of R10; where they are used is other statements. Times are numbers of CLK_W bits (log 5). -/
def Obligations.ArmAndCancelAndExpired : Prop :=
  ∀ (c : Config) (s : State) (d : Nat),
    (s.arm c d).tmrArmed = true ∧
    (s.arm c d).tmrDeadline = (s.now + d) % 2 ^ c.clkW ∧
    s.arm c d = { s with tmrArmed := true, tmrDeadline := (s.arm c d).tmrDeadline } ∧
    s.cancel = { s with tmrArmed := false } ∧
    let delta : Int := ((s.now : Int) - s.tmrDeadline) % 2 ^ c.clkW
    (s.expired c = true ↔
      s.tmrArmed = true ∧ 0 ≤ if delta < 2 ^ (c.clkW - 1) then delta else delta - 2 ^ c.clkW)

/-- R185: a TICK that sees no expiry does nothing. -/
def Obligations.TickWithoutExpiryDoesNothing : Prop :=
  ∀ s : State, (s.tmrArmed = false ∨ 2 ^ 31 ≤ ((s.now : Int) - s.tmrDeadline) % 2 ^ 32) →
    exec .tick s = .next { s with stepOut := [.tick false] }

/-- R185, R214: in steady state the timeout reaches the sink only (the spec's decision D32). -/
def Obligations.TickExpiryInSteadyState : Prop :=
  ∀ s : State, s.fsmState = .none → s.tmrArmed = true → tickInWindow hardware s.now s = true →
    exec .tick s = .next
      { s with
        tmrArmed := false
        sinkLog := s.sinkLog ++ [.error .timedOut]
        stepOut := [.tick true] }

/-- The On error/timeout column of the transition table with DISARM_POINT = BEFORE_DISPATCH (R185, R214, R217, R254 to R260). -/
def Obligations.TickExpiryDuringBringup : Prop :=
  ∀ s : State, s.tmrArmed = true → tickInWindow hardware s.now s = true →
    (s.fsmState = .resettingHardware → exec .tick s = .next
      { s with
        fsmState := .none, result := .failed, tmrArmed := false,
        sinkLog := s.sinkLog ++ [.bringupEnd .failed, .error .timedOut], stepOut := [.tick true] }) ∧
    (s.fsmState = .gettingVersion → exec .tick s = .next
      { s with
        fsmState := .checkingUsbFileCount,
        txLog := s.txLog ++ encodeFrame hardware (hardware.kind .qFileCountUsb) 0 false,
        tmrDeadline := (s.now + hardware.tDefault) % 2 ^ hardware.clkW,
        sinkLog := s.sinkLog ++ [.error .timedOut], stepOut := [.tick true] }) ∧
    (s.fsmState = .checkingUsbFileCount → exec .tick s = .next
      { s with
        fsmState := .checkingSdFileCount,
        txLog := s.txLog ++ encodeFrame hardware (hardware.kind .qFileCountSd) 0 false,
        tmrDeadline := (s.now + hardware.tDefault) % 2 ^ hardware.clkW,
        sinkLog := s.sinkLog ++ [.error .timedOut], stepOut := [.tick true] }) ∧
    (s.fsmState = .checkingSdFileCount → exec .tick s = .next
      { s with
        fsmState := .none, result := .noSource, tmrArmed := false,
        sinkLog := s.sinkLog ++ [.bringupEnd .noSource, .error .timedOut], stepOut := [.tick true] }) ∧
    (s.fsmState = .selectingUsb ∨ s.fsmState = .selectingSd ∨ s.fsmState = .checkingFolderCount →
      exec .tick s = .next
        { s with
          tmrArmed := false, sinkLog := s.sinkLog ++ [.error .timedOut], stepOut := [.tick true] })

/-- R186's account of the alternative DISARM_POINT; the machine itself runs with BEFORE_DISPATCH (log 18). -/
def Obligations.DisarmAfterDispatchLosesTheNewDeadline : Prop :=
  ∀ (c : Config) (s : State), c.Valid → c.disarmPoint = .afterDispatch → s.expired c = true →
    (s.fsmState = .gettingVersion →
      (tickTimer c s).fsmState = .checkingUsbFileCount ∧ (tickTimer c s).tmrArmed = false ∧
      (tickTimer c s).txLog = s.txLog ++ encodeFrame c (c.kind .qFileCountUsb) 0 false) ∧
    (s.fsmState = .checkingUsbFileCount →
      (tickTimer c s).fsmState = .checkingSdFileCount ∧ (tickTimer c s).tmrArmed = false ∧
      (tickTimer c s).txLog = s.txLog ++ encodeFrame c (c.kind .qFileCountSd) 0 false)

/-- R140, with the sum of R103; CHK_SPAN is a parameter (the spec's decision D27). -/
def Obligations.EncodedFrameLayoutAndChecksum : Prop :=
  ∀ (c : Config) (kind : Byte) (param : Half) (fb : Bool), ∃ chk sum : Half,
    encodeFrame c kind param fb =
      [0x7E, 0xFF, 0x06, kind, (if fb then 0x01 else 0x00), param.extractLsb' 8 8, param.extractLsb' 0 8,
       chk.extractLsb' 8 8, chk.extractLsb' 0 8, 0xEF] ∧
    chk.toNat = (2 ^ 16 - sum.toNat) % 2 ^ 16 ∧ sum + chk = 0 ∧
    (c.chkSpan = .payload →
      sum.toNat = (kind.toNat + (if fb then 1 else 0) + (param.extractLsb' 8 8).toNat +
        (param.extractLsb' 0 8).toNat) % 2 ^ 16) ∧
    (c.chkSpan = .headerAndPayload →
      sum.toNat = (0xFF + 0x06 + kind.toNat + (if fb then 1 else 0) + (param.extractLsb' 8 8).toNat +
        (param.extractLsb' 0 8).toNat) % 2 ^ 16)

/-- R113, which the spec derives from R103 and R105. -/
def Obligations.ChecksumHighByteIsNeverEnd : Prop :=
  ∀ (c : Config) (kind fb paramHi paramLo : Byte),
    (c.chkSpan = .payload →
      hiByte (checksum c kind fb paramHi paramLo) ∈ ([0xFC, 0xFD, 0xFE, 0xFF, 0x00] : List Byte)) ∧
    (c.chkSpan = .headerAndPayload →
      hiByte (checksum c kind fb paramHi paramLo) ∈ ([0xFA, 0xFB, 0xFC, 0xFD, 0xFE] : List Byte)) ∧
    hiByte (checksum c kind fb paramHi paramLo) ≠ endByte

/-- R142 and R143: template match and resynchronisation; RX_BUF is not cleared. -/
def Obligations.FeedAtTemplatePositions : Prop :=
  ∀ (b : Byte) (s : State),
    (s.rxCur = .at0 → exec (.feed b) s = .next
      { s with rxCur := if b = 0x7E then .at1 else .at0, stepOut := [.feed false false] }) ∧
    (s.rxCur = .at1 → exec (.feed b) s = .next
      { s with
        rxCur := if b = 0xFF then .at2 else if b = 0x7E then .at1 else .at0, stepOut := [.feed false false] }) ∧
    (s.rxCur = .at2 → exec (.feed b) s = .next
      { s with
        rxCur := if b = 0x06 then .at3 else if b = 0x7E then .at1 else .at0, stepOut := [.feed false false] }) ∧
    (s.rxCur = .at9 → b ≠ 0xEF → exec (.feed b) s = .next
      { s with rxCur := if b = 0x7E then .at1 else .at0, stepOut := [.feed false false] })

/-- R144, and the storing half of R145. -/
def Obligations.FeedAtStoredPositions : Prop :=
  ∀ (b : Byte) (s : State),
    (s.rxCur = .at3 → exec (.feed b) s = .next
      { s with rxCur := .at4, rxBuf := { s.rxBuf with kind := b }, stepOut := [.feed false false] }) ∧
    (s.rxCur = .at4 → exec (.feed b) s = .next
      { s with rxCur := .at5, rxBuf := { s.rxBuf with fb := b }, stepOut := [.feed false false] }) ∧
    (s.rxCur = .at5 → exec (.feed b) s = .next
      { s with rxCur := .at6, rxBuf := { s.rxBuf with paramHi := b }, stepOut := [.feed false false] }) ∧
    (s.rxCur = .at6 → exec (.feed b) s = .next
      { s with rxCur := .at7, rxBuf := { s.rxBuf with paramLo := b }, stepOut := [.feed false false] }) ∧
    (s.rxCur = .at7 → b ≠ 0xEF → exec (.feed b) s = .next
      { s with rxCur := .at8, rxBuf := { s.rxBuf with chkHi := b }, stepOut := [.feed false false] }) ∧
    (s.rxCur = .at8 → exec (.feed b) s = .next
      { s with rxCur := .at9, rxBuf := { s.rxBuf with chkLo := b }, stepOut := [.feed false false] })

/-- R145, R146: completion; R147: the record; R148: validity; R149, R213: hand-off. -/
def Obligations.FeedOfEndCompletesAFrame : Prop :=
  ∀ s : State,
    let taken : State := { s with rxCur := .at0, stepOut := [] }
    let param := s.rxBuf.paramHi ++ s.rxBuf.paramLo
    let chk := s.rxBuf.chkHi ++ s.rxBuf.chkLo
    let total := s.rxBuf.kind.toNat + s.rxBuf.fb.toNat + s.rxBuf.paramHi.toNat + s.rxBuf.paramLo.toNat + chk.toNat
    (s.rxCur = .at7 → exec (.feed 0xEF) s = .next
      { dispatchFrame hardware ⟨s.rxBuf.kind, s.rxBuf.fb, param, none⟩ taken with stepOut := [.feed true true] }) ∧
    (s.rxCur = .at9 → total % 2 ^ 16 = 0 → exec (.feed 0xEF) s = .next
      { dispatchFrame hardware ⟨s.rxBuf.kind, s.rxBuf.fb, param, some chk⟩ taken with
        stepOut := [.feed true true] }) ∧
    (s.rxCur = .at9 → total % 2 ^ 16 ≠ 0 → exec (.feed 0xEF) s = .next
      { taken with
        sinkLog := s.sinkLog ++ [.invalid s.rxBuf.kind s.rxBuf.fb param chk], stepOut := [.feed true false] })

/-- R212 (with the spec's decision D12 on the order of the two consumers). -/
def Obligations.DispatchOfAValidatedFrame : Prop :=
  ∀ (c : Config) (fr : FrameRecord) (s : State),
    (s.fsmState = .none → isReplyKind c fr.kind = true → dispatchFrame c fr s =
      { s with tmrArmed := false, sinkLog := s.sinkLog ++ wireNotifications c fr.kind fr.param }) ∧
    (s.fsmState = .none → isReplyKind c fr.kind = false → dispatchFrame c fr s =
      { s with sinkLog := s.sinkLog ++ wireNotifications c fr.kind fr.param }) ∧
    (s.fsmState ≠ .none → dispatchFrame c fr s =
      { fsmStep c (.wire fr.kind fr.fb fr.param) s with
        sinkLog := (fsmStep c (.wire fr.kind fr.fb fr.param) s).sinkLog ++
          wireNotifications c fr.kind fr.param })

/-- R187's set (the spec's decision D5), and R353. -/
def Obligations.ReplyKindsAreAckErrorAndTheQueries : Prop :=
  ∀ b : Byte, isReplyKind hardware b = true ↔
    b = hardware.kind .ack ∨ b = hardware.kind .error ∨ b = hardware.kind .qStatus ∨ b = hardware.kind .qVolume ∨
    b = hardware.kind .qEqualizer ∨ b = hardware.kind .qSequence ∨ b = hardware.kind .qFirmwareVersion ∨
    b = hardware.kind .qFileCountUsb ∨ b = hardware.kind .qFileCountSd ∨ b = hardware.kind .qFileCountFlash ∨
    b = hardware.kind .qCurrentFileUsb ∨ b = hardware.kind .qCurrentFileSd ∨ b = hardware.kind .qCurrentFileFlash ∨
    b = hardware.kind .qFolderTrackCount ∨ b = hardware.kind .qFolderCount

/-- R215, R216: the lookup needs only that KIND is injective (R7). -/
def Obligations.NotificationDecoderLooksUpTheKind : Prop :=
  ∀ (c : Config) (param : Half) (s : State), c.Valid →
    (∀ k : Kind, notifyWire c (c.kind k) param s = { s with sinkLog := s.sinkLog ++ kindNotifications param k }) ∧
    ∀ b : Byte, (∀ k : Kind, c.kind k ≠ b) → notifyWire c b param s = s

/-- R150 and R153, which the spec derives from R140 to R146. -/
def Obligations.EncodedFrameIsReceivedWhole : Prop :=
  ∀ (c : Config) (kind : Byte) (param : Half) (fb : Bool) (s : State), parserOpen s = true →
    let chk := checksum c kind (fbByte fb) (hiByte param) (loByte param)
    feedBytes c (encodeFrame c kind param fb) s.clearOut =
      { dispatchFrame c ⟨kind, fbByte fb, param, some chk⟩
          (frameTaken true kind (fbByte fb) param (.full chk) s) with
        stepOut := List.replicate 9 (.feed false false) ++ [.feed true true] }

/-- R151, which the spec derives from R148, with R213's effect of an invalid frame. -/
def Obligations.CorruptedFrameIsInvalid : Prop :=
  ∀ (c : Config) (k f ph pl k' f' ph' pl' ch' cl' : Byte) (s : State), parserOpen s = true →
    let chk := checksum c k f ph pl
    ((k' ≠ k ∧ f' = f ∧ ph' = ph ∧ pl' = pl ∧ ch' = hiByte chk ∧ cl' = loByte chk) ∨
     (k' = k ∧ f' ≠ f ∧ ph' = ph ∧ pl' = pl ∧ ch' = hiByte chk ∧ cl' = loByte chk) ∨
     (k' = k ∧ f' = f ∧ ph' ≠ ph ∧ pl' = pl ∧ ch' = hiByte chk ∧ cl' = loByte chk) ∨
     (k' = k ∧ f' = f ∧ ph' = ph ∧ pl' ≠ pl ∧ ch' = hiByte chk ∧ cl' = loByte chk) ∨
     (k' = k ∧ f' = f ∧ ph' = ph ∧ pl' = pl ∧ ch' ≠ hiByte chk ∧ ch' ≠ endByte ∧ cl' = loByte chk) ∨
     (k' = k ∧ f' = f ∧ ph' = ph ∧ pl' = pl ∧ ch' = hiByte chk ∧ cl' ≠ loByte chk)) →
    feedBytes c [startByte, verByte, lenByte, k', f', ph', pl', ch', cl', endByte] s.clearOut =
      { frameTaken false k' f' (ph' ++ pl') (.full (ch' ++ cl')) s with
        sinkLog := s.sinkLog ++ [.invalid k' f' (ph' ++ pl') (ch' ++ cl')] }

/-- R152, which the spec derives from R145, and the hazard R451. -/
def Obligations.EarlyEndIsAShortFrameAndNoise : Prop :=
  ∀ (c : Config) (k f cl : Byte) (param : Half) (s : State), parserOpen s = true →
    feedBytes c [startByte, verByte, lenByte, k, f, hiByte param, loByte param, endByte, cl, endByte] s.clearOut =
      { dispatchFrame c ⟨k, f, param, none⟩ (frameTaken true k f param .short s) with
        stepOut := List.replicate 7 (.feed false false) ++ [.feed true true] ++
          List.replicate 2 (.feed false false) }

/-- The hazard R449: noise that spells START VER LEN. The premise on param_lo keeps END away from the parser's offset 9; the feedback byte, at its offset 7, is never END. -/
def Obligations.HeaderNoiseSwallowsAFrame : Prop :=
  ∀ (c : Config) (kind : Byte) (param : Half) (fb : Bool) (s : State), s.rxCur = .at3 →
    loByte param ≠ endByte →
    ∃ t, feedBytes c (encodeFrame c kind param fb) s.clearOut = t ∧
      t = { s with rxCur := t.rxCur, rxBuf := t.rxBuf, stepOut := List.replicate 10 (.feed false false) }

/-- The Notification, FSM and Timer lines of R310 to R325. That the row is the frame arriving is the model's reading (log 1). -/
def Obligations.CommandFramesHaveNoEffectBeyondTheParser : Prop :=
  ∀ (fb : Byte) (param : Half) (tail : FrameTail) (s : State), parserOpen s = true →
    ∀ m ∈ ([
        (.msgNext fb param tail, .next),
        (.msgPrevious fb param tail, .previous),
        (.msgVolume fb param tail, .volume),
        (.msgEqualizer fb param tail, .equalizer),
        (.msgLoop fb param tail, .loop),
        (.msgSelectSource fb param tail, .selectSource),
        (.msgSleep fb param tail, .sleep),
        (.msgWake fb param tail, .wake),
        (.msgReset fb param tail, .reset),
        (.msgPlay fb param tail, .play),
        (.msgPause fb param tail, .pause),
        (.msgPlayFromFolder fb param tail, .playFromFolder),
        (.msgPlayFromBigFolder fb param tail, .playFromBigFolder),
        (.msgStop fb param tail, .stop),
        (.msgRandom fb param tail, .random),
        (.msgDacEnable fb param tail, .dacEnable)] : List (Instr × Kind)),
      tailAccepted hardware (hardware.kind m.2) fb param tail = true →
        exec m.1 s = .next (frameTaken true (hardware.kind m.2) fb param tail s)

/-- The Notification, FSM and Timer lines of R330 to R334 (with the spec's decisions D23, D24). The row as an arriving frame: log 1. -/
def Obligations.DeviceAndFileNotifications : Prop :=
  ∀ (fb : Byte) (param : Half) (tail : FrameTail) (s : State), parserOpen s = true →
    ∀ m ∈ ([
        (.msgDeviceInserted fb param tail, .deviceInserted,
          ((if param.getLsbD 0 then [.deviceInserted .usb] else []) ++
          (if param.getLsbD 1 then [.deviceInserted .sd] else []) ++
          (if param.getLsbD 2 then [.deviceInserted .aux] else []))),
        (.msgDeviceRemoved fb param tail, .deviceRemoved,
          ((if param.getLsbD 0 then [.deviceRemoved .usb] else []) ++
          (if param.getLsbD 1 then [.deviceRemoved .sd] else []) ++
          (if param.getLsbD 2 then [.deviceRemoved .aux] else []))),
        (.msgFinishedUsb fb param tail, .finishedUsb,
          [.fileFinished .usb param]),
        (.msgFinishedSd fb param tail, .finishedSd,
          [.fileFinished .sd param]),
        (.msgFinishedFlash fb param tail, .finishedFlash,
          [.fileFinished .flash param])] :
        List (Instr × Kind × List Notification)),
      tailAccepted hardware (hardware.kind m.2.1) fb param tail = true →
        exec m.1 s = .next
          { frameTaken true (hardware.kind m.2.1) fb param tail s with sinkLog := s.sinkLog ++ m.2.2 }

/-- R335, R336, R337 in steady state, with the reply cancellation of R187. The row as an arriving frame: log 1. -/
def Obligations.InitCompleteAckAndErrorInSteadyState : Prop :=
  ∀ (fb : Byte) (param : Half) (tail : FrameTail) (s : State), parserOpen s = true → s.fsmState = .none →
    (tailAccepted hardware (hardware.kind .initComplete) fb param tail = true →
      exec (.msgInitComplete fb param tail) s = .next
        { frameTaken true (hardware.kind .initComplete) fb param tail s with
          sinkLog := s.sinkLog ++ [.initComplete (param.getLsbD 0) (param.getLsbD 1) (param.getLsbD 2) (param.getLsbD 4)] }) ∧
    (tailAccepted hardware (hardware.kind .ack) fb param tail = true →
      exec (.msgAck fb param tail) s = .next
        { frameTaken true (hardware.kind .ack) fb param tail s with
          tmrArmed := false, sinkLog := s.sinkLog ++ [.ack] }) ∧
    (tailAccepted hardware (hardware.kind .error) fb param tail = true →
      exec (.msgError fb param tail) s = .next
        { frameTaken true (hardware.kind .error) fb param tail s with
          tmrArmed := false, sinkLog := s.sinkLog ++ [.error (.wireCode param)] })

/-- The Notification lines of R340 to R352 and the reply cancellation of R187. The row as an arriving frame: log 1. -/
def Obligations.QueryRepliesInSteadyState : Prop :=
  ∀ (fb : Byte) (param : Half) (tail : FrameTail) (s : State), parserOpen s = true → s.fsmState = .none →
    ∀ m ∈ ([
        (.msgQStatus fb param tail, .qStatus,
          [.status (param.extractLsb' 8 8) (param.extractLsb' 0 8)]),
        (.msgQVolume fb param tail, .qVolume,
          [.volume param]),
        (.msgQEqualizer fb param tail, .qEqualizer,
          [.equalizer param]),
        (.msgQSequence fb param tail, .qSequence,
          [.sequence param]),
        (.msgQFirmwareVersion fb param tail, .qFirmwareVersion,
          [.firmwareVersion param]),
        (.msgQFileCountUsb fb param tail, .qFileCountUsb,
          [.fileCount .usb param]),
        (.msgQFileCountSd fb param tail, .qFileCountSd,
          [.fileCount .sd param]),
        (.msgQFileCountFlash fb param tail, .qFileCountFlash,
          [.fileCount .flash param]),
        (.msgQCurrentFileUsb fb param tail, .qCurrentFileUsb,
          [.currentFile .usb param]),
        (.msgQCurrentFileSd fb param tail, .qCurrentFileSd,
          [.currentFile .sd param]),
        (.msgQCurrentFileFlash fb param tail, .qCurrentFileFlash,
          [.currentFile .flash param]),
        (.msgQFolderTrackCount fb param tail, .qFolderTrackCount,
          [.folderTrackCount param]),
        (.msgQFolderCount fb param tail, .qFolderCount,
          [.folderCount param])] :
        List (Instr × Kind × List Notification)),
      tailAccepted hardware (hardware.kind m.2.1) fb param tail = true →
        exec m.1 s = .next
          { frameTaken true (hardware.kind m.2.1) fb param tail s with
            tmrArmed := false, sinkLog := s.sinkLog ++ m.2.2 }

/-- R212 for the message rows while bring-up is active; what FSM_STEP does is the statements about R254 to R260. Log 1. -/
def Obligations.MessagesDuringBringup : Prop :=
  ∀ (i : Instr) (f : MsgFrame) (s : State), msgFrame? i = some f → parserOpen s = true → s.fsmState ≠ .none →
    tailAccepted hardware (hardware.kind f.kind) f.fb f.param f.tail = true →
    let u := fsmStep hardware (.wire (hardware.kind f.kind) f.fb f.param)
      (frameTaken true (hardware.kind f.kind) f.fb f.param f.tail s)
    exec i s = .next { u with sinkLog := u.sinkLog ++ kindNotifications f.param f.kind }

/-- R148 and R213 (with the spec's decisions D5, D33) for the message rows. Log 1. -/
def Obligations.MessageWithAWrongChecksumIsInvalid : Prop :=
  ∀ (i : Instr) (k : Kind) (fb : Byte) (param chk : Half) (s : State),
    msgFrame? i = some ⟨k, fb, param, .full chk⟩ → parserOpen s = true → chk.extractLsb' 8 8 ≠ endByte →
    ((hardware.kind k).toNat + fb.toNat + (param.extractLsb' 8 8).toNat + (param.extractLsb' 0 8).toNat +
        chk.toNat) % 2 ^ 16 ≠ 0 →
    exec i s = .next
      { frameTaken false (hardware.kind k) fb param (.full chk) s with
        sinkLog := s.sinkLog ++ [.invalid (hardware.kind k) fb param chk] }

/-- R251 (with the spec's decisions D5 and D35). -/
def Obligations.GotoChangesStateAndEnters : Prop :=
  ∀ (c : Config) (t : FsmState) (s : State),
    (t = s.fsmState → goto c t s = s) ∧
    (t ≠ s.fsmState → t = .none → goto c t s = { s with tmrArmed := false, fsmState := .none }) ∧
    (t ≠ s.fsmState → t ≠ .none → goto c t s = fsmStep c .enter { s with tmrArmed := false, fsmState := t })

/-- R253 (with the spec's decision D15). -/
def Obligations.FinishEndsBringup : Prop :=
  ∀ (c : Config) (r : EndResult) (s : State),
    finish c r s = goto c .none { s with result := endResultValue r, sinkLog := s.sinkLog ++ [.bringupEnd r] } ∧
    (s.fsmState ≠ .none → finish c r s =
      { s with
        result := endResultValue r, sinkLog := s.sinkLog ++ [.bringupEnd r], tmrArmed := false,
        fsmState := .none })

/-- R254, generic in the parameters (with the spec's decision D19 on feedback). -/
def Obligations.ResettingHardwareHandler : Prop :=
  ∀ (c : Config) (s : State), c.Valid → s.fsmState = .resettingHardware →
    (fsmStep c .enter s =
      { s with
        txLog := s.txLog ++ encodeFrame c (c.kind .reset) 0 true, tmrArmed := true,
        tmrDeadline := (s.now + c.tReset) % 2 ^ c.clkW }) ∧
    (∀ fb p, fsmStep c (.wire (c.kind .initComplete) fb p) s =
      { s with
        fsmState := .gettingVersion, txLog := s.txLog ++ encodeFrame c (c.kind .qFirmwareVersion) 0 false, tmrArmed := true,
        tmrDeadline := (s.now + c.tDefault) % 2 ^ c.clkW }) ∧
    (∀ fb p, fsmStep c .timeout s = fsmStep c (.wire (c.kind .error) fb p) s ∧ fsmStep c .timeout s =
      { s with
        result := .failed, sinkLog := s.sinkLog ++ [.bringupEnd .failed], tmrArmed := false, fsmState := .none }) ∧
    (∀ k fb p, k ≠ c.kind .initComplete → k ≠ c.kind .error → fsmStep c (.wire k fb p) s = s)

/-- R255 (with the spec's decision D13 on module errors). -/
def Obligations.GettingVersionHandler : Prop :=
  ∀ (c : Config) (s : State), c.Valid → s.fsmState = .gettingVersion →
    (fsmStep c .enter s =
      { s with
        txLog := s.txLog ++ encodeFrame c (c.kind .qFirmwareVersion) 0 false, tmrArmed := true,
        tmrDeadline := (s.now + c.tDefault) % 2 ^ c.clkW }) ∧
    (∀ fb p, fsmStep c (.wire (c.kind .qFirmwareVersion) fb p) s =
      { s with
        fsmState := .checkingUsbFileCount, txLog := s.txLog ++ encodeFrame c (c.kind .qFileCountUsb) 0 false, tmrArmed := true,
        tmrDeadline := (s.now + c.tDefault) % 2 ^ c.clkW }) ∧
    (∀ fb p, fsmStep c .timeout s = fsmStep c (.wire (c.kind .error) fb p) s ∧ fsmStep c .timeout s =
      { s with
        fsmState := .checkingUsbFileCount, txLog := s.txLog ++ encodeFrame c (c.kind .qFileCountUsb) 0 false, tmrArmed := true,
        tmrDeadline := (s.now + c.tDefault) % 2 ^ c.clkW }) ∧
    (∀ k fb p, k ≠ c.kind .qFirmwareVersion → k ≠ c.kind .error → fsmStep c (.wire k fb p) s = s)

/-- R256 (with the spec's decisions D16, D31). -/
def Obligations.CheckingUsbFileCountHandler : Prop :=
  ∀ (c : Config) (s : State), c.Valid → s.fsmState = .checkingUsbFileCount →
    (fsmStep c .enter s =
      { s with
        txLog := s.txLog ++ encodeFrame c (c.kind .qFileCountUsb) 0 false, tmrArmed := true,
        tmrDeadline := (s.now + c.tDefault) % 2 ^ c.clkW }) ∧
    (∀ fb n, n ≠ 0 → fsmStep c (.wire (c.kind .qFileCountUsb) fb n) s =
      { s with
        fsmState := .selectingUsb, txLog := s.txLog ++ encodeFrame c (c.kind .selectSource) (c.device .usb) true, tmrArmed := true,
        tmrDeadline := (s.now + c.tDefault) % 2 ^ c.clkW, fileCount := n }) ∧
    (∀ fb, fsmStep c (.wire (c.kind .qFileCountUsb) fb 0) s =
      { s with
        fsmState := .checkingSdFileCount, txLog := s.txLog ++ encodeFrame c (c.kind .qFileCountSd) 0 false, tmrArmed := true,
        tmrDeadline := (s.now + c.tDefault) % 2 ^ c.clkW }) ∧
    (∀ fb p, fsmStep c .timeout s = fsmStep c (.wire (c.kind .error) fb p) s ∧ fsmStep c .timeout s =
      { s with
        fsmState := .checkingSdFileCount, txLog := s.txLog ++ encodeFrame c (c.kind .qFileCountSd) 0 false, tmrArmed := true,
        tmrDeadline := (s.now + c.tDefault) % 2 ^ c.clkW }) ∧
    (∀ k fb p, k ≠ c.kind .qFileCountUsb → k ≠ c.kind .error → fsmStep c (.wire k fb p) s = s)

/-- R257. -/
def Obligations.CheckingSdFileCountHandler : Prop :=
  ∀ (c : Config) (s : State), c.Valid → s.fsmState = .checkingSdFileCount →
    (fsmStep c .enter s =
      { s with
        txLog := s.txLog ++ encodeFrame c (c.kind .qFileCountSd) 0 false, tmrArmed := true,
        tmrDeadline := (s.now + c.tDefault) % 2 ^ c.clkW }) ∧
    (∀ fb n, n ≠ 0 → fsmStep c (.wire (c.kind .qFileCountSd) fb n) s =
      { s with
        fsmState := .selectingSd, txLog := s.txLog ++ encodeFrame c (c.kind .selectSource) (c.device .sd) true, tmrArmed := true,
        tmrDeadline := (s.now + c.tDefault) % 2 ^ c.clkW, fileCount := n }) ∧
    (∀ fb, fsmStep c (.wire (c.kind .qFileCountSd) fb 0) s =
      { s with
        result := .noSource, sinkLog := s.sinkLog ++ [.bringupEnd .noSource], tmrArmed := false, fsmState := .none }) ∧
    (∀ fb p, fsmStep c .timeout s = fsmStep c (.wire (c.kind .error) fb p) s ∧ fsmStep c .timeout s =
      { s with
        result := .noSource, sinkLog := s.sinkLog ++ [.bringupEnd .noSource], tmrArmed := false, fsmState := .none }) ∧
    (∀ k fb p, k ≠ c.kind .qFileCountSd → k ≠ c.kind .error → fsmStep c (.wire k fb p) s = s)

/-- R258, R259 (with the spec's decision D19 on feedback). -/
def Obligations.SelectingStatesHandler : Prop :=
  ∀ (c : Config) (s : State), c.Valid →
    (s.fsmState = .selectingUsb →
    (fsmStep c .enter s =
      { s with
        txLog := s.txLog ++ encodeFrame c (c.kind .selectSource) (c.device .usb) true, tmrArmed := true,
        tmrDeadline := (s.now + c.tDefault) % 2 ^ c.clkW }) ∧
    (∀ fb p, fsmStep c (.wire (c.kind .ack) fb p) s =
      { s with
        fsmState := .checkingFolderCount, txLog := s.txLog ++ encodeFrame c (c.kind .qFolderCount) 0 false, tmrArmed := true,
        tmrDeadline := (s.now + c.tDefault) % 2 ^ c.clkW, selDevice := c.device .usb }) ∧
    (∀ k fb p, k ≠ c.kind .ack → fsmStep c (.wire k fb p) s = s) ∧
    fsmStep c .timeout s = s ∧
    (s.expired c = true → tickTimer c s =
      { s with
        tmrArmed := false, sinkLog := s.sinkLog ++ [.error .timedOut], stepOut := s.stepOut ++ [.tick true] })) ∧
    (s.fsmState = .selectingSd →
    (fsmStep c .enter s =
      { s with
        txLog := s.txLog ++ encodeFrame c (c.kind .selectSource) (c.device .sd) true, tmrArmed := true,
        tmrDeadline := (s.now + c.tDefault) % 2 ^ c.clkW }) ∧
    (∀ fb p, fsmStep c (.wire (c.kind .ack) fb p) s =
      { s with
        fsmState := .checkingFolderCount, txLog := s.txLog ++ encodeFrame c (c.kind .qFolderCount) 0 false, tmrArmed := true,
        tmrDeadline := (s.now + c.tDefault) % 2 ^ c.clkW, selDevice := c.device .sd }) ∧
    (∀ k fb p, k ≠ c.kind .ack → fsmStep c (.wire k fb p) s = s) ∧
    fsmStep c .timeout s = s ∧
    (s.expired c = true → tickTimer c s =
      { s with
        tmrArmed := false, sinkLog := s.sinkLog ++ [.error .timedOut], stepOut := s.stepOut ++ [.tick true] }))

/-- R260. -/
def Obligations.CheckingFolderCountHandler : Prop :=
  ∀ (c : Config) (s : State), c.Valid → s.fsmState = .checkingFolderCount →
    (fsmStep c .enter s =
      { s with
        txLog := s.txLog ++ encodeFrame c (c.kind .qFolderCount) 0 false, tmrArmed := true,
        tmrDeadline := (s.now + c.tDefault) % 2 ^ c.clkW }) ∧
    (∀ fb n, fsmStep c (.wire (c.kind .qFolderCount) fb n) s =
      { s with
        result := .ready, sinkLog := s.sinkLog ++ [.bringupEnd .ready], tmrArmed := false, fsmState := .none, folderCount := n }) ∧
    (∀ k fb p, k ≠ c.kind .qFolderCount → fsmStep c (.wire k fb p) s = s) ∧
    fsmStep c .timeout s = s

/-- R263, which the spec derives from R251 and R254 to R262. -/
def Obligations.OneOperationFollowsTheTransitionGraph : Prop :=
  ∀ (i : Instr) (s t : State), msgFrame? i = none → exec i s = .next t →
    (i = .por → t.fsmState = .none) ∧
    (i = .reset → t.fsmState = .resettingHardware) ∧
    (i ≠ .por → i ≠ .reset → fsmEdge s.fsmState t.fsmState = true)

/-- R265 and R448: states 5, 6 and 7 wait for the expected reply or a RESET. -/
def Obligations.OnlyAnAckLeavesASelectingState : Prop :=
  ∀ (i : Instr) (s t : State), msgFrame? i = none → exec i s = .next t → t.fsmState ≠ s.fsmState →
    i ≠ .por → i ≠ .reset →
    (s.fsmState = .selectingUsb ∨ s.fsmState = .selectingSd →
      i = .feed endByte ∧ (s.rxCur = .at7 ∨ s.rxCur = .at9) ∧ s.rxBuf.kind = hardware.kind .ack ∧
        t.fsmState = .checkingFolderCount) ∧
    (s.fsmState = .checkingFolderCount →
      i = .feed endByte ∧ (s.rxCur = .at7 ∨ s.rxCur = .at9) ∧ s.rxBuf.kind = hardware.kind .qFolderCount ∧
        t.fsmState = .none ∧ t.result = .ready)

/-- The hazard R444, which the spec derives from R183 and R254. -/
def Obligations.SendDuringResetShortensTheWait : Prop :=
  ∀ (fb : Bool) (kind : Byte) (param : Half) (s u v : State) (t : Nat), s.fsmState = .resettingHardware →
    (hardware.tDefault : Int) ≤ ((t : Int) - s.now) % 2 ^ 32 →
    ((t : Int) - s.now) % 2 ^ 32 ≤ hardware.tDefault + 2 ^ 31 - 1 →
    exec (.send fb kind param) s = .next u → exec .tick { u with now := t } = .next v →
      v.fsmState = .none ∧ v.result = .failed ∧ v.tmrArmed = false

/-- R405(2): within one UPDATE (R188) the bytes come before the timer. -/
def Obligations.ReplyBeforeTickAtTheSameNow : Prop :=
  ∀ (fb : Byte) (param : Half) (tail : FrameTail) (s u v : State), parserOpen s = true →
    s.fsmState = .gettingVersion → tailAccepted hardware (hardware.kind .qFirmwareVersion) fb param tail = true →
    exec (.msgQFirmwareVersion fb param tail) s = .next u → exec .tick u = .next v →
      v.fsmState = .checkingUsbFileCount ∧ v.stepOut = [.tick false] ∧ v.tmrArmed = true ∧
        v.tmrDeadline = (s.now + hardware.tDefault) % 2 ^ hardware.clkW

/-- Two invariants of the machine, collected from R37, R39 to R42, R264 and R442; an inference from the rules, none of them. Times are numbers of CLK_W bits (log 5). -/
def Obligations.BringupRegistersStayConsistent : Prop :=
  ∀ s t : State, step s = .next t →
    (BringupConsistent hardware s → BringupConsistent hardware t) ∧
    (TimesInRange hardware s → TimesInRange hardware t)

/-- R440's values meet the invariants; now at reset is the model's (log 14). -/
def Obligations.BringupRegistersConsistentAtReset : Prop :=
  BringupConsistent hardware State.reset ∧ TimesInRange hardware State.reset

/-- R43 and R72: whole frames only. That an armed timer implies a frame in the log is an inference from R180 and R184; which frame the deadline is for is not said here. -/
def Obligations.TransmitLogStaysFramed : Prop :=
  ∀ s t : State, TxFramed hardware s → step s = .next t → TxFramed hardware t

/-- R440's values meet the invariant. -/
def Obligations.TransmitLogFramedAtReset : Prop :=
  TxFramed hardware State.reset

/-- R39 and R253: RESULT and BRINGUP_END are written together, by finish alone. -/
def Obligations.ResultStaysWhatWasReported : Prop :=
  ∀ s t : State, ResultReported s → step s = .next t → ResultReported t

/-- R440's values meet the invariant. -/
def Obligations.ResultReportedAtReset : Prop :=
  ResultReported State.reset

/-- R43, R44: TxEmit and SinkEmit append, and nothing removes. -/
def Obligations.LogsOnlyGrow : Prop :=
  ∀ (i : Instr) (s t : State), i ≠ .por → exec i s = .next t →
    (∃ u, t.txLog = s.txLog ++ u) ∧ ∃ v, t.sinkLog = s.sinkLog ++ v

/-- R34 (the POR value of RX_BUF is unobservable) and R37, R182 (the deadline while disarmed), which the spec marks as derived. -/
def Obligations.StaleCellsAndDisarmedDeadlineAreUnobservable : Prop :=
  ∀ s t : State, ObsEq s t → SameOutcome (step s) (step t)

/-- R381, outside the block (log 12). -/
def Obligations.VolumeIsClampedBeforeItIsSent : Prop :=
  (∀ v : Int, ∃ p : Half, hostOp hardware (.setVolume v) = some (.send true (hardware.kind .volume) p) ∧
    (v < 0 → p = 0) ∧ (30 < v → p = 30) ∧ (0 ≤ v → v ≤ 30 → (p.toNat : Int) = v)) ∧
  hostOp hardware (.setVolume (-5)) = hostOp hardware (.setVolume 0) ∧
  hostOp hardware (.setVolume 999) = hostOp hardware (.setVolume 30)

/-- R382 and R384 (with the spec's decision D29 on folder 256 and above), outside the block (log 12). -/
def Obligations.TrackAddressingPicksOneEncoding : Prop :=
  ∀ folder track : Nat,
    (track < 256 → ∃ p : Half,
      hostOp hardware (.playTrack folder track) = some (.send true (hardware.kind .playFromFolder) p) ∧
      p.toNat = (folder * 256 + track) % 2 ^ 16) ∧
    (256 ≤ track → folder < 16 → track ≤ 3000 → ∃ p : Half,
      hostOp hardware (.playTrack folder track) = some (.send true (hardware.kind .playFromBigFolder) p) ∧
      p.toNat = folder * 4096 + track) ∧
    (256 ≤ track → (16 ≤ folder ∨ 3000 < track) →
      hostOp hardware (.playTrack folder track) = none ∧
      ∀ t : Nat, hostCallInputs hardware t (.playTrack folder track) = [])

/-- The table of R380, with the clamp of R381, and R383, R385; the row of playTrack is TrackAddressingPicksOneEncoding. Outside the block (log 12). -/
def Obligations.HostCallsFollowTheFeedbackPolicy : Prop :=
  ∀ c : Config,
    (∀ row ∈ ([(.next, .next), (.previous, .previous), (.play, .play), (.pause, .pause), (.stop, .stop), (.random, .random), (.sleep, .sleep), (.wake, .wake)] : List (HostCall × Kind)),
      hostOp c row.1 = some (.send true (c.kind row.2) 0)) ∧
    (∀ p : Half, hostOp c (.loop p) = some (.send true (c.kind .loop) p)) ∧
    (∀ v : Int, hostOp c (.setVolume v) =
      some (.send true (c.kind .volume) (BitVec.ofInt 16 (max 0 (min (c.volMax : Int) v))))) ∧
    (∀ e : Half, hostOp c (.setEqualizer e) = some (.send true (c.kind .equalizer) e)) ∧
    (∀ p : Half, hostOp c (.enableDAC p) = some (.send true (c.kind .dacEnable) p)) ∧
    (∀ d : Device, hostOp c (.selectSource d) = some (.send true (c.kind .selectSource) (c.device d))) ∧
    (∀ row ∈ ([(.queryStatus, .qStatus), (.queryVolume, .qVolume), (.queryEqualizer, .qEqualizer),
        (.querySequence, .qSequence), (.queryFirmwareVersion, .qFirmwareVersion), (.queryFileCount .usb, .qFileCountUsb),
        (.queryFileCount .sd, .qFileCountSd), (.queryFileCount .flash, .qFileCountFlash), (.queryCurrentFile .usb, .qCurrentFileUsb),
        (.queryCurrentFile .sd, .qCurrentFileSd), (.queryCurrentFile .flash, .qCurrentFileFlash), (.queryFolderCount, .qFolderCount)] :
        List (HostCall × Kind)),
      hostOp c row.1 = some (.send false (c.kind row.2) 0)) ∧
    (∀ f : Half, hostOp c (.queryFolderTrackCount f) = some (.send false (c.kind .qFolderTrackCount) f)) ∧
    hostOp c .reset = some .reset ∧
    (∀ (call : HostCall) (i : Instr) (t : Nat), hostOp c call = some i →
      hostCallInputs c t call = [⟨t, encode c i⟩]) ∧
    ∀ (call : HostCall) (i : Instr), hostOp c call = some i →
      (i = .reset ∧ call = .reset) ∨
      ∃ fb k p, i = .send fb k p ∧
        ((fb = true ∧
           (k = c.kind .next ∨ k = c.kind .previous ∨ k = c.kind .volume ∨ k =
            c.kind .equalizer ∨ k = c.kind .loop ∨ k = c.kind .selectSource ∨ k =
            c.kind .sleep ∨ k = c.kind .wake ∨ k = c.kind .play ∨ k = c.kind .pause
            ∨ k = c.kind .playFromFolder ∨ k = c.kind .playFromBigFolder ∨ k = c.kind .stop
            ∨ k = c.kind .random ∨ k = c.kind .dacEnable)) ∨
         (fb = false ∧ (p = 0 ∨ k = c.kind .qFolderTrackCount) ∧
           (k = c.kind .qStatus ∨ k = c.kind .qVolume ∨ k = c.kind .qEqualizer ∨ k =
            c.kind .qSequence ∨ k = c.kind .qFirmwareVersion ∨ k = c.kind .qFileCountUsb ∨
            k = c.kind .qFileCountSd ∨ k = c.kind .qFileCountFlash ∨ k = c.kind
            .qCurrentFileUsb ∨ k = c.kind .qCurrentFileSd ∨ k = c.kind .qCurrentFileFlash ∨ k =
            c.kind .qFolderTrackCount ∨ k = c.kind .qFolderCount)))

/-- R112 and R188 (with the spec's decision D22). The written form is a notation for presented operations; what RXSHORT's fb admits there is the model's choice (log 16). -/
def Obligations.PseudoOperationsAreTheirExpansions : Prop :=
  (∀ (c : Config) (a : AsmOp) (t : Nat),
    (asmInputs c t a).map (fun p => decode c p.input) = (expandAsm c a).map .ok ∧
    ∀ p ∈ asmInputs c t a, p.now = t) ∧
  (∀ c : Config,
    expandAsm c .por = [.por] ∧ expandAsm c .tick = [.tick] ∧ expandAsm c .reset = [.reset] ∧
    (∀ b : Byte, expandAsm c (.feed b) = [.feed b]) ∧
    (∀ (k : Byte) (p : Half) (fb : Bool), expandAsm c (.send k p fb) = [.send fb k p]) ∧
    (∀ bs : List Byte, expandAsm c (.feeds bs) = bs.map .feed) ∧
    (∀ (k : Byte) (p : Half) (fb : Bool), expandAsm c (.rxFrame k p fb) = (encodeFrame c k p fb).map .feed) ∧
    (∀ (k fb : Byte) (p : Half), expandAsm c (.rxShort k fb p) =
      [.feed 0x7E, .feed 0xFF, .feed 0x06, .feed k, .feed fb, .feed (p.extractLsb' 8 8), .feed (p.extractLsb' 0 8),
       .feed 0xEF]) ∧
    (∀ bs : List Byte, expandAsm c (.update bs) = bs.map .feed ++ [.tick]) ∧
    (∀ (k : Kind) (p : Half), expandAsm c (.cmd k p) = [.send true (c.kind k) p]) ∧
    ∀ k : Kind, expandAsm c (.query k) = [.send false (c.kind k) 0x0000]) ∧
  ∀ (bs : List Byte) (s : State), ∃ u outs,
    execAll (expandAsm hardware (.feeds bs)) s = some u ∧
    { feedBytes hardware bs s with stepOut := u.stepOut } = u ∧
    execOutputs (expandAsm hardware (.feeds bs)) s = some outs ∧ outs.length = bs.length ∧
    (feedBytes hardware bs s.clearOut).stepOut = outs
end

