-- ==== Sys2Proof/Laws/State.lean ====
section
/-! SUPPORT. What each named update of the state does to each field: one lemma for each field and update. -/

namespace Sys2Proof.Machine

section
variable (s : State)

@[simp] theorem State.clearOut_rxCur : s.clearOut.rxCur = s.rxCur := rfl
@[simp] theorem State.clearOut_rxBuf : s.clearOut.rxBuf = s.rxBuf := rfl
@[simp] theorem State.clearOut_tmrArmed : s.clearOut.tmrArmed = s.tmrArmed := rfl
@[simp] theorem State.clearOut_tmrDeadline : s.clearOut.tmrDeadline = s.tmrDeadline := rfl
@[simp] theorem State.clearOut_fsmState : s.clearOut.fsmState = s.fsmState := rfl
@[simp] theorem State.clearOut_result : s.clearOut.result = s.result := rfl
@[simp] theorem State.clearOut_selDevice : s.clearOut.selDevice = s.selDevice := rfl
@[simp] theorem State.clearOut_fileCount : s.clearOut.fileCount = s.fileCount := rfl
@[simp] theorem State.clearOut_folderCount : s.clearOut.folderCount = s.folderCount := rfl
@[simp] theorem State.clearOut_txLog : s.clearOut.txLog = s.txLog := rfl
@[simp] theorem State.clearOut_sinkLog : s.clearOut.sinkLog = s.sinkLog := rfl
@[simp] theorem State.clearOut_now : s.clearOut.now = s.now := rfl
@[simp] theorem State.clearOut_pending : s.clearOut.pending = s.pending := rfl
@[simp] theorem State.clearOut_stepOut : s.clearOut.stepOut = [] := rfl

@[simp] theorem State.pushOut_rxCur (o : StepOutput) : (s.pushOut o).rxCur = s.rxCur := rfl
@[simp] theorem State.pushOut_rxBuf (o : StepOutput) : (s.pushOut o).rxBuf = s.rxBuf := rfl
@[simp] theorem State.pushOut_tmrArmed (o : StepOutput) : (s.pushOut o).tmrArmed = s.tmrArmed := rfl
@[simp] theorem State.pushOut_tmrDeadline (o : StepOutput) : (s.pushOut o).tmrDeadline = s.tmrDeadline := rfl
@[simp] theorem State.pushOut_fsmState (o : StepOutput) : (s.pushOut o).fsmState = s.fsmState := rfl
@[simp] theorem State.pushOut_result (o : StepOutput) : (s.pushOut o).result = s.result := rfl
@[simp] theorem State.pushOut_selDevice (o : StepOutput) : (s.pushOut o).selDevice = s.selDevice := rfl
@[simp] theorem State.pushOut_fileCount (o : StepOutput) : (s.pushOut o).fileCount = s.fileCount := rfl
@[simp] theorem State.pushOut_folderCount (o : StepOutput) : (s.pushOut o).folderCount = s.folderCount := rfl
@[simp] theorem State.pushOut_txLog (o : StepOutput) : (s.pushOut o).txLog = s.txLog := rfl
@[simp] theorem State.pushOut_sinkLog (o : StepOutput) : (s.pushOut o).sinkLog = s.sinkLog := rfl
@[simp] theorem State.pushOut_now (o : StepOutput) : (s.pushOut o).now = s.now := rfl
@[simp] theorem State.pushOut_pending (o : StepOutput) : (s.pushOut o).pending = s.pending := rfl
@[simp] theorem State.pushOut_stepOut (o : StepOutput) : (s.pushOut o).stepOut = s.stepOut ++ [o] := rfl

@[simp] theorem State.setRxCur_rxCur (v : RxCursor) : (s.setRxCur v).rxCur = v := rfl
@[simp] theorem State.setRxCur_rxBuf (v : RxCursor) : (s.setRxCur v).rxBuf = s.rxBuf := rfl
@[simp] theorem State.setRxCur_tmrArmed (v : RxCursor) : (s.setRxCur v).tmrArmed = s.tmrArmed := rfl
@[simp] theorem State.setRxCur_tmrDeadline (v : RxCursor) : (s.setRxCur v).tmrDeadline = s.tmrDeadline := rfl
@[simp] theorem State.setRxCur_fsmState (v : RxCursor) : (s.setRxCur v).fsmState = s.fsmState := rfl
@[simp] theorem State.setRxCur_result (v : RxCursor) : (s.setRxCur v).result = s.result := rfl
@[simp] theorem State.setRxCur_selDevice (v : RxCursor) : (s.setRxCur v).selDevice = s.selDevice := rfl
@[simp] theorem State.setRxCur_fileCount (v : RxCursor) : (s.setRxCur v).fileCount = s.fileCount := rfl
@[simp] theorem State.setRxCur_folderCount (v : RxCursor) : (s.setRxCur v).folderCount = s.folderCount := rfl
@[simp] theorem State.setRxCur_txLog (v : RxCursor) : (s.setRxCur v).txLog = s.txLog := rfl
@[simp] theorem State.setRxCur_sinkLog (v : RxCursor) : (s.setRxCur v).sinkLog = s.sinkLog := rfl
@[simp] theorem State.setRxCur_now (v : RxCursor) : (s.setRxCur v).now = s.now := rfl
@[simp] theorem State.setRxCur_pending (v : RxCursor) : (s.setRxCur v).pending = s.pending := rfl
@[simp] theorem State.setRxCur_stepOut (v : RxCursor) : (s.setRxCur v).stepOut = s.stepOut := rfl

@[simp] theorem State.storeRx_rxCur (b : Byte) : (s.storeRx b).rxCur = s.rxCur := rfl
@[simp] theorem State.storeRx_rxBuf (b : Byte) : (s.storeRx b).rxBuf = storeCell b s.rxBuf s.rxCur := rfl
@[simp] theorem State.storeRx_tmrArmed (b : Byte) : (s.storeRx b).tmrArmed = s.tmrArmed := rfl
@[simp] theorem State.storeRx_tmrDeadline (b : Byte) : (s.storeRx b).tmrDeadline = s.tmrDeadline := rfl
@[simp] theorem State.storeRx_fsmState (b : Byte) : (s.storeRx b).fsmState = s.fsmState := rfl
@[simp] theorem State.storeRx_result (b : Byte) : (s.storeRx b).result = s.result := rfl
@[simp] theorem State.storeRx_selDevice (b : Byte) : (s.storeRx b).selDevice = s.selDevice := rfl
@[simp] theorem State.storeRx_fileCount (b : Byte) : (s.storeRx b).fileCount = s.fileCount := rfl
@[simp] theorem State.storeRx_folderCount (b : Byte) : (s.storeRx b).folderCount = s.folderCount := rfl
@[simp] theorem State.storeRx_txLog (b : Byte) : (s.storeRx b).txLog = s.txLog := rfl
@[simp] theorem State.storeRx_sinkLog (b : Byte) : (s.storeRx b).sinkLog = s.sinkLog := rfl
@[simp] theorem State.storeRx_now (b : Byte) : (s.storeRx b).now = s.now := rfl
@[simp] theorem State.storeRx_pending (b : Byte) : (s.storeRx b).pending = s.pending := rfl
@[simp] theorem State.storeRx_stepOut (b : Byte) : (s.storeRx b).stepOut = s.stepOut := rfl

@[simp] theorem State.setFsmState_rxCur (v : FsmState) : (s.setFsmState v).rxCur = s.rxCur := rfl
@[simp] theorem State.setFsmState_rxBuf (v : FsmState) : (s.setFsmState v).rxBuf = s.rxBuf := rfl
@[simp] theorem State.setFsmState_tmrArmed (v : FsmState) : (s.setFsmState v).tmrArmed = s.tmrArmed := rfl
@[simp] theorem State.setFsmState_tmrDeadline (v : FsmState) : (s.setFsmState v).tmrDeadline = s.tmrDeadline := rfl
@[simp] theorem State.setFsmState_fsmState (v : FsmState) : (s.setFsmState v).fsmState = v := rfl
@[simp] theorem State.setFsmState_result (v : FsmState) : (s.setFsmState v).result = s.result := rfl
@[simp] theorem State.setFsmState_selDevice (v : FsmState) : (s.setFsmState v).selDevice = s.selDevice := rfl
@[simp] theorem State.setFsmState_fileCount (v : FsmState) : (s.setFsmState v).fileCount = s.fileCount := rfl
@[simp] theorem State.setFsmState_folderCount (v : FsmState) : (s.setFsmState v).folderCount = s.folderCount := rfl
@[simp] theorem State.setFsmState_txLog (v : FsmState) : (s.setFsmState v).txLog = s.txLog := rfl
@[simp] theorem State.setFsmState_sinkLog (v : FsmState) : (s.setFsmState v).sinkLog = s.sinkLog := rfl
@[simp] theorem State.setFsmState_now (v : FsmState) : (s.setFsmState v).now = s.now := rfl
@[simp] theorem State.setFsmState_pending (v : FsmState) : (s.setFsmState v).pending = s.pending := rfl
@[simp] theorem State.setFsmState_stepOut (v : FsmState) : (s.setFsmState v).stepOut = s.stepOut := rfl

@[simp] theorem State.setResult_rxCur (v : BringupResult) : (s.setResult v).rxCur = s.rxCur := rfl
@[simp] theorem State.setResult_rxBuf (v : BringupResult) : (s.setResult v).rxBuf = s.rxBuf := rfl
@[simp] theorem State.setResult_tmrArmed (v : BringupResult) : (s.setResult v).tmrArmed = s.tmrArmed := rfl
@[simp] theorem State.setResult_tmrDeadline (v : BringupResult) : (s.setResult v).tmrDeadline = s.tmrDeadline := rfl
@[simp] theorem State.setResult_fsmState (v : BringupResult) : (s.setResult v).fsmState = s.fsmState := rfl
@[simp] theorem State.setResult_result (v : BringupResult) : (s.setResult v).result = v := rfl
@[simp] theorem State.setResult_selDevice (v : BringupResult) : (s.setResult v).selDevice = s.selDevice := rfl
@[simp] theorem State.setResult_fileCount (v : BringupResult) : (s.setResult v).fileCount = s.fileCount := rfl
@[simp] theorem State.setResult_folderCount (v : BringupResult) : (s.setResult v).folderCount = s.folderCount := rfl
@[simp] theorem State.setResult_txLog (v : BringupResult) : (s.setResult v).txLog = s.txLog := rfl
@[simp] theorem State.setResult_sinkLog (v : BringupResult) : (s.setResult v).sinkLog = s.sinkLog := rfl
@[simp] theorem State.setResult_now (v : BringupResult) : (s.setResult v).now = s.now := rfl
@[simp] theorem State.setResult_pending (v : BringupResult) : (s.setResult v).pending = s.pending := rfl
@[simp] theorem State.setResult_stepOut (v : BringupResult) : (s.setResult v).stepOut = s.stepOut := rfl

@[simp] theorem State.setSelDevice_rxCur (v : Half) : (s.setSelDevice v).rxCur = s.rxCur := rfl
@[simp] theorem State.setSelDevice_rxBuf (v : Half) : (s.setSelDevice v).rxBuf = s.rxBuf := rfl
@[simp] theorem State.setSelDevice_tmrArmed (v : Half) : (s.setSelDevice v).tmrArmed = s.tmrArmed := rfl
@[simp] theorem State.setSelDevice_tmrDeadline (v : Half) : (s.setSelDevice v).tmrDeadline = s.tmrDeadline := rfl
@[simp] theorem State.setSelDevice_fsmState (v : Half) : (s.setSelDevice v).fsmState = s.fsmState := rfl
@[simp] theorem State.setSelDevice_result (v : Half) : (s.setSelDevice v).result = s.result := rfl
@[simp] theorem State.setSelDevice_selDevice (v : Half) : (s.setSelDevice v).selDevice = v := rfl
@[simp] theorem State.setSelDevice_fileCount (v : Half) : (s.setSelDevice v).fileCount = s.fileCount := rfl
@[simp] theorem State.setSelDevice_folderCount (v : Half) : (s.setSelDevice v).folderCount = s.folderCount := rfl
@[simp] theorem State.setSelDevice_txLog (v : Half) : (s.setSelDevice v).txLog = s.txLog := rfl
@[simp] theorem State.setSelDevice_sinkLog (v : Half) : (s.setSelDevice v).sinkLog = s.sinkLog := rfl
@[simp] theorem State.setSelDevice_now (v : Half) : (s.setSelDevice v).now = s.now := rfl
@[simp] theorem State.setSelDevice_pending (v : Half) : (s.setSelDevice v).pending = s.pending := rfl
@[simp] theorem State.setSelDevice_stepOut (v : Half) : (s.setSelDevice v).stepOut = s.stepOut := rfl

@[simp] theorem State.setFileCount_rxCur (v : Half) : (s.setFileCount v).rxCur = s.rxCur := rfl
@[simp] theorem State.setFileCount_rxBuf (v : Half) : (s.setFileCount v).rxBuf = s.rxBuf := rfl
@[simp] theorem State.setFileCount_tmrArmed (v : Half) : (s.setFileCount v).tmrArmed = s.tmrArmed := rfl
@[simp] theorem State.setFileCount_tmrDeadline (v : Half) : (s.setFileCount v).tmrDeadline = s.tmrDeadline := rfl
@[simp] theorem State.setFileCount_fsmState (v : Half) : (s.setFileCount v).fsmState = s.fsmState := rfl
@[simp] theorem State.setFileCount_result (v : Half) : (s.setFileCount v).result = s.result := rfl
@[simp] theorem State.setFileCount_selDevice (v : Half) : (s.setFileCount v).selDevice = s.selDevice := rfl
@[simp] theorem State.setFileCount_fileCount (v : Half) : (s.setFileCount v).fileCount = v := rfl
@[simp] theorem State.setFileCount_folderCount (v : Half) : (s.setFileCount v).folderCount = s.folderCount := rfl
@[simp] theorem State.setFileCount_txLog (v : Half) : (s.setFileCount v).txLog = s.txLog := rfl
@[simp] theorem State.setFileCount_sinkLog (v : Half) : (s.setFileCount v).sinkLog = s.sinkLog := rfl
@[simp] theorem State.setFileCount_now (v : Half) : (s.setFileCount v).now = s.now := rfl
@[simp] theorem State.setFileCount_pending (v : Half) : (s.setFileCount v).pending = s.pending := rfl
@[simp] theorem State.setFileCount_stepOut (v : Half) : (s.setFileCount v).stepOut = s.stepOut := rfl

@[simp] theorem State.setFolderCount_rxCur (v : Half) : (s.setFolderCount v).rxCur = s.rxCur := rfl
@[simp] theorem State.setFolderCount_rxBuf (v : Half) : (s.setFolderCount v).rxBuf = s.rxBuf := rfl
@[simp] theorem State.setFolderCount_tmrArmed (v : Half) : (s.setFolderCount v).tmrArmed = s.tmrArmed := rfl
@[simp] theorem State.setFolderCount_tmrDeadline (v : Half) : (s.setFolderCount v).tmrDeadline = s.tmrDeadline := rfl
@[simp] theorem State.setFolderCount_fsmState (v : Half) : (s.setFolderCount v).fsmState = s.fsmState := rfl
@[simp] theorem State.setFolderCount_result (v : Half) : (s.setFolderCount v).result = s.result := rfl
@[simp] theorem State.setFolderCount_selDevice (v : Half) : (s.setFolderCount v).selDevice = s.selDevice := rfl
@[simp] theorem State.setFolderCount_fileCount (v : Half) : (s.setFolderCount v).fileCount = s.fileCount := rfl
@[simp] theorem State.setFolderCount_folderCount (v : Half) : (s.setFolderCount v).folderCount = v := rfl
@[simp] theorem State.setFolderCount_txLog (v : Half) : (s.setFolderCount v).txLog = s.txLog := rfl
@[simp] theorem State.setFolderCount_sinkLog (v : Half) : (s.setFolderCount v).sinkLog = s.sinkLog := rfl
@[simp] theorem State.setFolderCount_now (v : Half) : (s.setFolderCount v).now = s.now := rfl
@[simp] theorem State.setFolderCount_pending (v : Half) : (s.setFolderCount v).pending = s.pending := rfl
@[simp] theorem State.setFolderCount_stepOut (v : Half) : (s.setFolderCount v).stepOut = s.stepOut := rfl

@[simp] theorem State.arm_rxCur (c : Config) (d : Nat) : (s.arm c d).rxCur = s.rxCur := rfl
@[simp] theorem State.arm_rxBuf (c : Config) (d : Nat) : (s.arm c d).rxBuf = s.rxBuf := rfl
@[simp] theorem State.arm_tmrArmed (c : Config) (d : Nat) : (s.arm c d).tmrArmed = true := rfl
@[simp] theorem State.arm_tmrDeadline (c : Config) (d : Nat) : (s.arm c d).tmrDeadline = timeAfter c s.now d := rfl
@[simp] theorem State.arm_fsmState (c : Config) (d : Nat) : (s.arm c d).fsmState = s.fsmState := rfl
@[simp] theorem State.arm_result (c : Config) (d : Nat) : (s.arm c d).result = s.result := rfl
@[simp] theorem State.arm_selDevice (c : Config) (d : Nat) : (s.arm c d).selDevice = s.selDevice := rfl
@[simp] theorem State.arm_fileCount (c : Config) (d : Nat) : (s.arm c d).fileCount = s.fileCount := rfl
@[simp] theorem State.arm_folderCount (c : Config) (d : Nat) : (s.arm c d).folderCount = s.folderCount := rfl
@[simp] theorem State.arm_txLog (c : Config) (d : Nat) : (s.arm c d).txLog = s.txLog := rfl
@[simp] theorem State.arm_sinkLog (c : Config) (d : Nat) : (s.arm c d).sinkLog = s.sinkLog := rfl
@[simp] theorem State.arm_now (c : Config) (d : Nat) : (s.arm c d).now = s.now := rfl
@[simp] theorem State.arm_pending (c : Config) (d : Nat) : (s.arm c d).pending = s.pending := rfl
@[simp] theorem State.arm_stepOut (c : Config) (d : Nat) : (s.arm c d).stepOut = s.stepOut := rfl

@[simp] theorem State.cancel_rxCur : s.cancel.rxCur = s.rxCur := rfl
@[simp] theorem State.cancel_rxBuf : s.cancel.rxBuf = s.rxBuf := rfl
@[simp] theorem State.cancel_tmrArmed : s.cancel.tmrArmed = false := rfl
@[simp] theorem State.cancel_tmrDeadline : s.cancel.tmrDeadline = s.tmrDeadline := rfl
@[simp] theorem State.cancel_fsmState : s.cancel.fsmState = s.fsmState := rfl
@[simp] theorem State.cancel_result : s.cancel.result = s.result := rfl
@[simp] theorem State.cancel_selDevice : s.cancel.selDevice = s.selDevice := rfl
@[simp] theorem State.cancel_fileCount : s.cancel.fileCount = s.fileCount := rfl
@[simp] theorem State.cancel_folderCount : s.cancel.folderCount = s.folderCount := rfl
@[simp] theorem State.cancel_txLog : s.cancel.txLog = s.txLog := rfl
@[simp] theorem State.cancel_sinkLog : s.cancel.sinkLog = s.sinkLog := rfl
@[simp] theorem State.cancel_now : s.cancel.now = s.now := rfl
@[simp] theorem State.cancel_pending : s.cancel.pending = s.pending := rfl
@[simp] theorem State.cancel_stepOut : s.cancel.stepOut = s.stepOut := rfl

@[simp] theorem State.txEmit_rxCur (f : List Byte) : (s.txEmit f).rxCur = s.rxCur := rfl
@[simp] theorem State.txEmit_rxBuf (f : List Byte) : (s.txEmit f).rxBuf = s.rxBuf := rfl
@[simp] theorem State.txEmit_tmrArmed (f : List Byte) : (s.txEmit f).tmrArmed = s.tmrArmed := rfl
@[simp] theorem State.txEmit_tmrDeadline (f : List Byte) : (s.txEmit f).tmrDeadline = s.tmrDeadline := rfl
@[simp] theorem State.txEmit_fsmState (f : List Byte) : (s.txEmit f).fsmState = s.fsmState := rfl
@[simp] theorem State.txEmit_result (f : List Byte) : (s.txEmit f).result = s.result := rfl
@[simp] theorem State.txEmit_selDevice (f : List Byte) : (s.txEmit f).selDevice = s.selDevice := rfl
@[simp] theorem State.txEmit_fileCount (f : List Byte) : (s.txEmit f).fileCount = s.fileCount := rfl
@[simp] theorem State.txEmit_folderCount (f : List Byte) : (s.txEmit f).folderCount = s.folderCount := rfl
@[simp] theorem State.txEmit_txLog (f : List Byte) : (s.txEmit f).txLog = s.txLog ++ f := rfl
@[simp] theorem State.txEmit_sinkLog (f : List Byte) : (s.txEmit f).sinkLog = s.sinkLog := rfl
@[simp] theorem State.txEmit_now (f : List Byte) : (s.txEmit f).now = s.now := rfl
@[simp] theorem State.txEmit_pending (f : List Byte) : (s.txEmit f).pending = s.pending := rfl
@[simp] theorem State.txEmit_stepOut (f : List Byte) : (s.txEmit f).stepOut = s.stepOut := rfl

@[simp] theorem State.sinkEmit_rxCur (n : Notification) : (s.sinkEmit n).rxCur = s.rxCur := rfl
@[simp] theorem State.sinkEmit_rxBuf (n : Notification) : (s.sinkEmit n).rxBuf = s.rxBuf := rfl
@[simp] theorem State.sinkEmit_tmrArmed (n : Notification) : (s.sinkEmit n).tmrArmed = s.tmrArmed := rfl
@[simp] theorem State.sinkEmit_tmrDeadline (n : Notification) : (s.sinkEmit n).tmrDeadline = s.tmrDeadline := rfl
@[simp] theorem State.sinkEmit_fsmState (n : Notification) : (s.sinkEmit n).fsmState = s.fsmState := rfl
@[simp] theorem State.sinkEmit_result (n : Notification) : (s.sinkEmit n).result = s.result := rfl
@[simp] theorem State.sinkEmit_selDevice (n : Notification) : (s.sinkEmit n).selDevice = s.selDevice := rfl
@[simp] theorem State.sinkEmit_fileCount (n : Notification) : (s.sinkEmit n).fileCount = s.fileCount := rfl
@[simp] theorem State.sinkEmit_folderCount (n : Notification) : (s.sinkEmit n).folderCount = s.folderCount := rfl
@[simp] theorem State.sinkEmit_txLog (n : Notification) : (s.sinkEmit n).txLog = s.txLog := rfl
@[simp] theorem State.sinkEmit_sinkLog (n : Notification) : (s.sinkEmit n).sinkLog = s.sinkLog ++ [n] := rfl
@[simp] theorem State.sinkEmit_now (n : Notification) : (s.sinkEmit n).now = s.now := rfl
@[simp] theorem State.sinkEmit_pending (n : Notification) : (s.sinkEmit n).pending = s.pending := rfl
@[simp] theorem State.sinkEmit_stepOut (n : Notification) : (s.sinkEmit n).stepOut = s.stepOut := rfl

@[simp] theorem State.sinkEmitAll_rxCur (ns : List Notification) : (s.sinkEmitAll ns).rxCur = s.rxCur := rfl
@[simp] theorem State.sinkEmitAll_rxBuf (ns : List Notification) : (s.sinkEmitAll ns).rxBuf = s.rxBuf := rfl
@[simp] theorem State.sinkEmitAll_tmrArmed (ns : List Notification) : (s.sinkEmitAll ns).tmrArmed = s.tmrArmed := rfl
@[simp] theorem State.sinkEmitAll_tmrDeadline (ns : List Notification) : (s.sinkEmitAll ns).tmrDeadline = s.tmrDeadline := rfl
@[simp] theorem State.sinkEmitAll_fsmState (ns : List Notification) : (s.sinkEmitAll ns).fsmState = s.fsmState := rfl
@[simp] theorem State.sinkEmitAll_result (ns : List Notification) : (s.sinkEmitAll ns).result = s.result := rfl
@[simp] theorem State.sinkEmitAll_selDevice (ns : List Notification) : (s.sinkEmitAll ns).selDevice = s.selDevice := rfl
@[simp] theorem State.sinkEmitAll_fileCount (ns : List Notification) : (s.sinkEmitAll ns).fileCount = s.fileCount := rfl
@[simp] theorem State.sinkEmitAll_folderCount (ns : List Notification) : (s.sinkEmitAll ns).folderCount = s.folderCount := rfl
@[simp] theorem State.sinkEmitAll_txLog (ns : List Notification) : (s.sinkEmitAll ns).txLog = s.txLog := rfl
@[simp] theorem State.sinkEmitAll_sinkLog (ns : List Notification) : (s.sinkEmitAll ns).sinkLog = s.sinkLog ++ ns := rfl
@[simp] theorem State.sinkEmitAll_now (ns : List Notification) : (s.sinkEmitAll ns).now = s.now := rfl
@[simp] theorem State.sinkEmitAll_pending (ns : List Notification) : (s.sinkEmitAll ns).pending = s.pending := rfl
@[simp] theorem State.sinkEmitAll_stepOut (ns : List Notification) : (s.sinkEmitAll ns).stepOut = s.stepOut := rfl

@[simp] theorem State.take_rxCur (c : Config) (t : Nat) (r : List PortOp) : (s.take c t r).rxCur = s.rxCur := rfl
@[simp] theorem State.take_rxBuf (c : Config) (t : Nat) (r : List PortOp) : (s.take c t r).rxBuf = s.rxBuf := rfl
@[simp] theorem State.take_tmrArmed (c : Config) (t : Nat) (r : List PortOp) : (s.take c t r).tmrArmed = s.tmrArmed := rfl
@[simp] theorem State.take_tmrDeadline (c : Config) (t : Nat) (r : List PortOp) : (s.take c t r).tmrDeadline = s.tmrDeadline := rfl
@[simp] theorem State.take_fsmState (c : Config) (t : Nat) (r : List PortOp) : (s.take c t r).fsmState = s.fsmState := rfl
@[simp] theorem State.take_result (c : Config) (t : Nat) (r : List PortOp) : (s.take c t r).result = s.result := rfl
@[simp] theorem State.take_selDevice (c : Config) (t : Nat) (r : List PortOp) : (s.take c t r).selDevice = s.selDevice := rfl
@[simp] theorem State.take_fileCount (c : Config) (t : Nat) (r : List PortOp) : (s.take c t r).fileCount = s.fileCount := rfl
@[simp] theorem State.take_folderCount (c : Config) (t : Nat) (r : List PortOp) : (s.take c t r).folderCount = s.folderCount := rfl
@[simp] theorem State.take_txLog (c : Config) (t : Nat) (r : List PortOp) : (s.take c t r).txLog = s.txLog := rfl
@[simp] theorem State.take_sinkLog (c : Config) (t : Nat) (r : List PortOp) : (s.take c t r).sinkLog = s.sinkLog := rfl
@[simp] theorem State.take_now (c : Config) (t : Nat) (r : List PortOp) : (s.take c t r).now = t % 2 ^ c.clkW := rfl
@[simp] theorem State.take_pending (c : Config) (t : Nat) (r : List PortOp) : (s.take c t r).pending = r := rfl
@[simp] theorem State.take_stepOut (c : Config) (t : Nat) (r : List PortOp) : (s.take c t r).stepOut = s.stepOut := rfl

@[simp] theorem State.powerOn_rxCur : s.powerOn.rxCur = .at0 := rfl
@[simp] theorem State.powerOn_rxBuf : s.powerOn.rxBuf = ⟨0, 0, 0, 0, 0, 0⟩ := rfl
@[simp] theorem State.powerOn_tmrArmed : s.powerOn.tmrArmed = false := rfl
@[simp] theorem State.powerOn_tmrDeadline : s.powerOn.tmrDeadline = 0 := rfl
@[simp] theorem State.powerOn_fsmState : s.powerOn.fsmState = .none := rfl
@[simp] theorem State.powerOn_result : s.powerOn.result = .notStarted := rfl
@[simp] theorem State.powerOn_selDevice : s.powerOn.selDevice = 0 := rfl
@[simp] theorem State.powerOn_fileCount : s.powerOn.fileCount = 0 := rfl
@[simp] theorem State.powerOn_folderCount : s.powerOn.folderCount = 0 := rfl
@[simp] theorem State.powerOn_txLog : s.powerOn.txLog = [] := rfl
@[simp] theorem State.powerOn_sinkLog : s.powerOn.sinkLog = [] := rfl
@[simp] theorem State.powerOn_now : s.powerOn.now = s.now := rfl
@[simp] theorem State.powerOn_pending : s.powerOn.pending = s.pending := rfl
@[simp] theorem State.powerOn_stepOut : s.powerOn.stepOut = s.stepOut := rfl

end

end Sys2Proof.Machine
end

