-- ==== Sys2Proof/Laws/Fsm.lean ====
section
/-! SUPPORT. What the shared operations of the FSM do: the field lemmas of TX_FRAME, goto and finish, and for FSM_STEP one
lemma that says everything it can do. -/

namespace Sys2Proof.Machine

section
variable (c : Config) (s : State)

@[simp] theorem txFrame_rxCur (k : Byte) (p : Half) (fb : Bool) (d : Nat) :
    (txFrame c k p fb d s).rxCur = s.rxCur := rfl

@[simp] theorem txFrame_rxBuf (k : Byte) (p : Half) (fb : Bool) (d : Nat) :
    (txFrame c k p fb d s).rxBuf = s.rxBuf := rfl

@[simp] theorem txFrame_tmrArmed (k : Byte) (p : Half) (fb : Bool) (d : Nat) :
    (txFrame c k p fb d s).tmrArmed = true := rfl

@[simp] theorem txFrame_tmrDeadline (k : Byte) (p : Half) (fb : Bool) (d : Nat) :
    (txFrame c k p fb d s).tmrDeadline = timeAfter c s.now d := rfl

@[simp] theorem txFrame_fsmState (k : Byte) (p : Half) (fb : Bool) (d : Nat) :
    (txFrame c k p fb d s).fsmState = s.fsmState := rfl

@[simp] theorem txFrame_result (k : Byte) (p : Half) (fb : Bool) (d : Nat) :
    (txFrame c k p fb d s).result = s.result := rfl

@[simp] theorem txFrame_selDevice (k : Byte) (p : Half) (fb : Bool) (d : Nat) :
    (txFrame c k p fb d s).selDevice = s.selDevice := rfl

@[simp] theorem txFrame_fileCount (k : Byte) (p : Half) (fb : Bool) (d : Nat) :
    (txFrame c k p fb d s).fileCount = s.fileCount := rfl

@[simp] theorem txFrame_folderCount (k : Byte) (p : Half) (fb : Bool) (d : Nat) :
    (txFrame c k p fb d s).folderCount = s.folderCount := rfl

@[simp] theorem txFrame_txLog (k : Byte) (p : Half) (fb : Bool) (d : Nat) :
    (txFrame c k p fb d s).txLog = s.txLog ++ encodeFrame c k p fb := rfl

@[simp] theorem txFrame_sinkLog (k : Byte) (p : Half) (fb : Bool) (d : Nat) :
    (txFrame c k p fb d s).sinkLog = s.sinkLog := rfl

@[simp] theorem txFrame_now (k : Byte) (p : Half) (fb : Bool) (d : Nat) :
    (txFrame c k p fb d s).now = s.now := rfl

@[simp] theorem txFrame_pending (k : Byte) (p : Half) (fb : Bool) (d : Nat) :
    (txFrame c k p fb d s).pending = s.pending := rfl

@[simp] theorem txFrame_stepOut (k : Byte) (p : Half) (fb : Bool) (d : Nat) :
    (txFrame c k p fb d s).stepOut = s.stepOut := rfl

/-- TX_FRAME, as one record update (R184). -/
theorem txFrame_eq (k : Byte) (p : Half) (fb : Bool) (d : Nat) :
    txFrame c k p fb d s =
      { s with txLog := s.txLog ++ encodeFrame c k p fb, tmrArmed := true, tmrDeadline := timeAfter c s.now d } :=
  rfl

/-- What an entry action sends, and the duration it arms: kind, parameter, feedback, duration (R254 to R260). -/
def entryFrame : FsmState → Option (Byte × Half × Bool × Nat)
  | .none => none
  | .resettingHardware => some (c.kind .reset, 0, true, c.tReset)
  | .gettingVersion => some (c.kind .qFirmwareVersion, 0, false, c.tDefault)
  | .checkingUsbFileCount => some (c.kind .qFileCountUsb, 0, false, c.tDefault)
  | .checkingSdFileCount => some (c.kind .qFileCountSd, 0, false, c.tDefault)
  | .selectingUsb => some (c.kind .selectSource, c.device .usb, true, c.tDefault)
  | .selectingSd => some (c.kind .selectSource, c.device .sd, true, c.tDefault)
  | .checkingFolderCount => some (c.kind .qFolderCount, 0, false, c.tDefault)

/-- Every entry action is one TX_FRAME, and NONE has none. -/
theorem enterState_eq :
    enterState c s =
      match entryFrame c s.fsmState with
      | some (k, p, fb, d) => txFrame c k p fb d s
      | none => s := by
  unfold enterState entryFrame
  cases s.fsmState <;> rfl

/-- goto to the current state does nothing (R251). -/
@[simp] theorem goto_self : goto c s.fsmState s = s := if_pos rfl

/-- goto(NONE) from an active state (R251). -/
theorem goto_none (h : s.fsmState ≠ .none) :
    goto c .none s = { s with tmrArmed := false, fsmState := .none } := by
  unfold goto
  rw [if_neg (Ne.symm h), if_pos rfl]
  rfl

/-- goto to another state: cancel, change, transmit the entry frame and arm its deadline (R251, R254 to R260). -/
theorem goto_entry (t : FsmState) (h : t ≠ s.fsmState) {k : Byte} {p : Half} {fb : Bool} {d : Nat}
    (he : entryFrame c t = some (k, p, fb, d)) :
    goto c t s =
      { s with
        fsmState := t, txLog := s.txLog ++ encodeFrame c k p fb, tmrArmed := true,
        tmrDeadline := timeAfter c s.now d } := by
  have ht : t ≠ .none := by
    rintro rfl
    simp [entryFrame] at he
  unfold goto
  rw [if_neg h, if_neg ht, enterState_eq]
  simp only [State.setFsmState_fsmState, he]
  rfl

/-- goto leaves the state it is asked for (R251). -/
@[simp] theorem goto_fsmState (t : FsmState) : (goto c t s).fsmState = t := by
  unfold goto
  split
  · exact Eq.symm ‹_›
  · split
    · simp [‹t = _›]
    · rw [enterState_eq]
      split <;> rfl

@[simp] theorem goto_rxCur (t : FsmState) : (goto c t s).rxCur = s.rxCur := by
  unfold goto
  split
  · rfl
  · split
    · rfl
    · rw [enterState_eq]
      split <;> rfl

@[simp] theorem goto_rxBuf (t : FsmState) : (goto c t s).rxBuf = s.rxBuf := by
  unfold goto
  split
  · rfl
  · split
    · rfl
    · rw [enterState_eq]
      split <;> rfl

@[simp] theorem goto_result (t : FsmState) : (goto c t s).result = s.result := by
  unfold goto
  split
  · rfl
  · split
    · rfl
    · rw [enterState_eq]
      split <;> rfl

@[simp] theorem goto_selDevice (t : FsmState) : (goto c t s).selDevice = s.selDevice := by
  unfold goto
  split
  · rfl
  · split
    · rfl
    · rw [enterState_eq]
      split <;> rfl

@[simp] theorem goto_fileCount (t : FsmState) : (goto c t s).fileCount = s.fileCount := by
  unfold goto
  split
  · rfl
  · split
    · rfl
    · rw [enterState_eq]
      split <;> rfl

@[simp] theorem goto_folderCount (t : FsmState) : (goto c t s).folderCount = s.folderCount := by
  unfold goto
  split
  · rfl
  · split
    · rfl
    · rw [enterState_eq]
      split <;> rfl

@[simp] theorem goto_sinkLog (t : FsmState) : (goto c t s).sinkLog = s.sinkLog := by
  unfold goto
  split
  · rfl
  · split
    · rfl
    · rw [enterState_eq]
      split <;> rfl

@[simp] theorem goto_now (t : FsmState) : (goto c t s).now = s.now := by
  unfold goto
  split
  · rfl
  · split
    · rfl
    · rw [enterState_eq]
      split <;> rfl

@[simp] theorem goto_pending (t : FsmState) : (goto c t s).pending = s.pending := by
  unfold goto
  split
  · rfl
  · split
    · rfl
    · rw [enterState_eq]
      split <;> rfl

@[simp] theorem goto_stepOut (t : FsmState) : (goto c t s).stepOut = s.stepOut := by
  unfold goto
  split
  · rfl
  · split
    · rfl
    · rw [enterState_eq]
      split <;> rfl

/-- finish(r) from an active state, as one record update (R253). -/
theorem finish_eq (r : EndResult) (h : s.fsmState ≠ .none) :
    finish c r s =
      { s with
        result := endResultValue r, sinkLog := s.sinkLog ++ [.bringupEnd r], tmrArmed := false, fsmState := .none } := by
  unfold finish
  rw [goto_none]
  · rfl
  · exact h

/-- Everything FSM_STEP can do with an event that is not ENTER (R252, R254 to R260): nothing; a goto to another state,
with at most one of the counters written first; or a finish. -/
theorem fsmStep_cases (ev : FsmEvent) (hev : ev ≠ .enter) :
    fsmStep c ev s = s ∨
    (s.fsmState = .resettingHardware ∧ fsmStep c ev s = goto c .gettingVersion s) ∨
    (s.fsmState = .resettingHardware ∧ fsmStep c ev s = finish c .failed s) ∨
    (s.fsmState = .gettingVersion ∧ fsmStep c ev s = goto c .checkingUsbFileCount s) ∨
    (s.fsmState = .checkingUsbFileCount ∧ fsmStep c ev s = goto c .checkingSdFileCount s) ∨
    (s.fsmState = .checkingUsbFileCount ∧ eventParam ev ≠ 0 ∧
      fsmStep c ev s = goto c .selectingUsb (s.setFileCount (eventParam ev))) ∨
    (s.fsmState = .checkingSdFileCount ∧ fsmStep c ev s = finish c .noSource s) ∨
    (s.fsmState = .checkingSdFileCount ∧ eventParam ev ≠ 0 ∧
      fsmStep c ev s = goto c .selectingSd (s.setFileCount (eventParam ev))) ∨
    (s.fsmState = .selectingUsb ∧
      fsmStep c ev s = goto c .checkingFolderCount (s.setSelDevice (c.device .usb))) ∨
    (s.fsmState = .selectingSd ∧
      fsmStep c ev s = goto c .checkingFolderCount (s.setSelDevice (c.device .sd))) ∨
    (s.fsmState = .checkingFolderCount ∧
      fsmStep c ev s = finish c .ready (s.setFolderCount (eventParam ev))) := by
  unfold fsmStep
  cases hs : s.fsmState <;>
    simp only [handleResettingHardware, handleGettingVersion, handleCheckingUsb, handleCheckingSd,
      handleSelectingUsb, handleSelectingSd, handleCheckingFolder, if_neg hev] <;>
    (try split_ifs) <;> simp_all

@[simp] theorem finish_rxCur (r : EndResult) : (finish c r s).rxCur = s.rxCur := by
  simp [finish]

@[simp] theorem enterState_rxCur : (enterState c s).rxCur = s.rxCur := by
  rw [enterState_eq]
  split <;> rfl

@[simp] theorem fsmStep_rxCur (ev : FsmEvent) : (fsmStep c ev s).rxCur = s.rxCur := by
  by_cases hev : ev = .enter
  · subst hev
    unfold fsmStep
    cases s.fsmState <;> rfl
  · rcases fsmStep_cases c s ev hev with h | ⟨_, h⟩ | ⟨_, h⟩ | ⟨_, h⟩ | ⟨_, h⟩ | ⟨_, _, h⟩ | ⟨_, h⟩ | ⟨_, _, h⟩ |
      ⟨_, h⟩ | ⟨_, h⟩ | ⟨_, h⟩ <;> simp [h]

@[simp] theorem finish_rxBuf (r : EndResult) : (finish c r s).rxBuf = s.rxBuf := by
  simp [finish]

@[simp] theorem enterState_rxBuf : (enterState c s).rxBuf = s.rxBuf := by
  rw [enterState_eq]
  split <;> rfl

@[simp] theorem fsmStep_rxBuf (ev : FsmEvent) : (fsmStep c ev s).rxBuf = s.rxBuf := by
  by_cases hev : ev = .enter
  · subst hev
    unfold fsmStep
    cases s.fsmState <;> rfl
  · rcases fsmStep_cases c s ev hev with h | ⟨_, h⟩ | ⟨_, h⟩ | ⟨_, h⟩ | ⟨_, h⟩ | ⟨_, _, h⟩ | ⟨_, h⟩ | ⟨_, _, h⟩ |
      ⟨_, h⟩ | ⟨_, h⟩ | ⟨_, h⟩ <;> simp [h]

@[simp] theorem finish_now (r : EndResult) : (finish c r s).now = s.now := by
  simp [finish]

@[simp] theorem enterState_now : (enterState c s).now = s.now := by
  rw [enterState_eq]
  split <;> rfl

@[simp] theorem fsmStep_now (ev : FsmEvent) : (fsmStep c ev s).now = s.now := by
  by_cases hev : ev = .enter
  · subst hev
    unfold fsmStep
    cases s.fsmState <;> rfl
  · rcases fsmStep_cases c s ev hev with h | ⟨_, h⟩ | ⟨_, h⟩ | ⟨_, h⟩ | ⟨_, h⟩ | ⟨_, _, h⟩ | ⟨_, h⟩ | ⟨_, _, h⟩ |
      ⟨_, h⟩ | ⟨_, h⟩ | ⟨_, h⟩ <;> simp [h]

@[simp] theorem finish_pending (r : EndResult) : (finish c r s).pending = s.pending := by
  simp [finish]

@[simp] theorem enterState_pending : (enterState c s).pending = s.pending := by
  rw [enterState_eq]
  split <;> rfl

@[simp] theorem fsmStep_pending (ev : FsmEvent) : (fsmStep c ev s).pending = s.pending := by
  by_cases hev : ev = .enter
  · subst hev
    unfold fsmStep
    cases s.fsmState <;> rfl
  · rcases fsmStep_cases c s ev hev with h | ⟨_, h⟩ | ⟨_, h⟩ | ⟨_, h⟩ | ⟨_, h⟩ | ⟨_, _, h⟩ | ⟨_, h⟩ | ⟨_, _, h⟩ |
      ⟨_, h⟩ | ⟨_, h⟩ | ⟨_, h⟩ <;> simp [h]

@[simp] theorem finish_stepOut (r : EndResult) : (finish c r s).stepOut = s.stepOut := by
  simp [finish]

@[simp] theorem enterState_stepOut : (enterState c s).stepOut = s.stepOut := by
  rw [enterState_eq]
  split <;> rfl

@[simp] theorem fsmStep_stepOut (ev : FsmEvent) : (fsmStep c ev s).stepOut = s.stepOut := by
  by_cases hev : ev = .enter
  · subst hev
    unfold fsmStep
    cases s.fsmState <;> rfl
  · rcases fsmStep_cases c s ev hev with h | ⟨_, h⟩ | ⟨_, h⟩ | ⟨_, h⟩ | ⟨_, h⟩ | ⟨_, _, h⟩ | ⟨_, h⟩ | ⟨_, _, h⟩ |
      ⟨_, h⟩ | ⟨_, h⟩ | ⟨_, h⟩ <;> simp [h]

/-- FSM_STEP(ENTER) is the entry action of the current state (R251, R252). -/
theorem fsmStep_enter : fsmStep c .enter s = enterState c s := by
  unfold fsmStep enterState
  cases s.fsmState <;> rfl

/-- RESET's restart of bring-up, as one record update (R262). -/
theorem restartBringup_eq :
    restartBringup c s =
      { s with
        fsmState := .resettingHardware, selDevice := 0, fileCount := 0, folderCount := 0, result := .inProgress,
        txLog := s.txLog ++ encodeFrame c (c.kind .reset) 0 true, tmrArmed := true,
        tmrDeadline := timeAfter c s.now c.tReset } := by
  unfold restartBringup
  rw [goto_entry c _ .resettingHardware (by simp) rfl]
  rfl

end

end Sys2Proof.Machine
end

