-- ==== Sys2Proof/Laws/Codec.lean ====
section
/-! SUPPORT. What the event path and the receive parser do, said once (R141 to R149, R212 to R216). -/

namespace Sys2Proof.Machine

section
variable (c : Config) (s : State)

@[simp] theorem dispatchFrame_rxCur (fr : FrameRecord) : (dispatchFrame c fr s).rxCur = s.rxCur := by
  simp only [dispatchFrame, notifyWire, State.sinkEmitAll_rxCur]
  split_ifs <;> simp

@[simp] theorem dispatchTimeout_rxCur : (dispatchTimeout c s).rxCur = s.rxCur := by
  simp only [dispatchTimeout, State.sinkEmit_rxCur]
  split_ifs <;> simp

@[simp] theorem dispatchInvalid_rxCur (fr : FrameRecord) : (dispatchInvalid fr s).rxCur = s.rxCur := by
  unfold dispatchInvalid
  cases fr.chk <;> rfl

@[simp] theorem dispatchFrame_rxBuf (fr : FrameRecord) : (dispatchFrame c fr s).rxBuf = s.rxBuf := by
  simp only [dispatchFrame, notifyWire, State.sinkEmitAll_rxBuf]
  split_ifs <;> simp

@[simp] theorem dispatchTimeout_rxBuf : (dispatchTimeout c s).rxBuf = s.rxBuf := by
  simp only [dispatchTimeout, State.sinkEmit_rxBuf]
  split_ifs <;> simp

@[simp] theorem dispatchInvalid_rxBuf (fr : FrameRecord) : (dispatchInvalid fr s).rxBuf = s.rxBuf := by
  unfold dispatchInvalid
  cases fr.chk <;> rfl

@[simp] theorem dispatchFrame_now (fr : FrameRecord) : (dispatchFrame c fr s).now = s.now := by
  simp only [dispatchFrame, notifyWire, State.sinkEmitAll_now]
  split_ifs <;> simp

@[simp] theorem dispatchTimeout_now : (dispatchTimeout c s).now = s.now := by
  simp only [dispatchTimeout, State.sinkEmit_now]
  split_ifs <;> simp

@[simp] theorem dispatchInvalid_now (fr : FrameRecord) : (dispatchInvalid fr s).now = s.now := by
  unfold dispatchInvalid
  cases fr.chk <;> rfl

@[simp] theorem dispatchFrame_pending (fr : FrameRecord) : (dispatchFrame c fr s).pending = s.pending := by
  simp only [dispatchFrame, notifyWire, State.sinkEmitAll_pending]
  split_ifs <;> simp

@[simp] theorem dispatchTimeout_pending : (dispatchTimeout c s).pending = s.pending := by
  simp only [dispatchTimeout, State.sinkEmit_pending]
  split_ifs <;> simp

@[simp] theorem dispatchInvalid_pending (fr : FrameRecord) : (dispatchInvalid fr s).pending = s.pending := by
  unfold dispatchInvalid
  cases fr.chk <;> rfl

@[simp] theorem dispatchFrame_stepOut (fr : FrameRecord) : (dispatchFrame c fr s).stepOut = s.stepOut := by
  simp only [dispatchFrame, notifyWire, State.sinkEmitAll_stepOut]
  split_ifs <;> simp

@[simp] theorem dispatchTimeout_stepOut : (dispatchTimeout c s).stepOut = s.stepOut := by
  simp only [dispatchTimeout, State.sinkEmit_stepOut]
  split_ifs <;> simp

@[simp] theorem dispatchInvalid_stepOut (fr : FrameRecord) : (dispatchInvalid fr s).stepOut = s.stepOut := by
  unfold dispatchInvalid
  cases fr.chk <;> rfl

/-- DISPATCH_FRAME in steady state (R187, R212, R261): reply cancellation, then the decoder. -/
theorem dispatchFrame_idle (fr : FrameRecord) (h : s.fsmState = .none) :
    dispatchFrame c fr s =
      { s with
        tmrArmed := !isReplyKind c fr.kind && s.tmrArmed,
        sinkLog := s.sinkLog ++ wireNotifications c fr.kind fr.param } := by
  obtain ⟨⟩ := s
  subst h
  cases hr : isReplyKind c fr.kind <;> simp [dispatchFrame, notifyWire, hr] <;> rfl

/-- DISPATCH_FRAME while bring-up is active (R212): the FSM, then the decoder; no reply cancellation. -/
theorem dispatchFrame_active (fr : FrameRecord) (h : s.fsmState ≠ .none) :
    dispatchFrame c fr s =
      (fsmStep c (.wire fr.kind fr.fb fr.param) s).sinkEmitAll (wireNotifications c fr.kind fr.param) := by
  simp [dispatchFrame, notifyWire, h]

/-- DISPATCH_INVALID on a full frame's record: the notification alone (R213). -/
theorem dispatchInvalid_full (kind fb : Byte) (param chk : Half) :
    dispatchInvalid ⟨kind, fb, param, some chk⟩ s =
      { s with sinkLog := s.sinkLog ++ [.invalid kind fb param chk] } :=
  rfl

/-- RESYNC moves the cursor alone (R143). -/
theorem resync_eq (b : Byte) :
    resync b s = { s with rxCur := if b = startByte then .at1 else .at0 } := by
  unfold resync
  split_ifs <;> rfl

/-- A FEED does one of four things (R141): a template match, a resynchronisation, a store, or a completion. -/
theorem feedByte_cases (b : Byte) :
    (∃ cur, feedByte c b s = (s.setRxCur cur).pushOut (.feed false false)) ∨
    feedByte c b s = feedStored b s ∨
    (s.rxCur = .at7 ∧ b = endByte ∧ feedByte c b s = complete c (shortRecord s.rxBuf) (s.setRxCur .at0)) ∨
    (s.rxCur = .at9 ∧ b = endByte ∧ feedByte c b s = complete c (fullRecord s.rxBuf) (s.setRxCur .at0)) := by
  unfold feedByte
  cases hs : s.rxCur <;> simp only [feedTemplate, resync]
  case at7 =>
    split_ifs with h
    · exact .inr (.inr (.inl ⟨trivial, h, rfl⟩))
    · exact .inr (.inl rfl)
  case at9 =>
    split_ifs with h
    · exact .inr (.inr (.inr ⟨trivial, h, rfl⟩))
    · exact .inl ⟨_, rfl⟩
    · exact .inl ⟨_, rfl⟩
  all_goals first
    | exact .inr (.inl trivial)
    | (split_ifs <;> exact .inl ⟨_, rfl⟩)

/-- FEEDS of a concatenation is one after the other. -/
theorem feedBytes_append (xs ys : List Byte) :
    feedBytes c (xs ++ ys) s = feedBytes c ys (feedBytes c xs s) := by
  induction xs generalizing s with
  | nil => rfl
  | cons b bs ih => exact ih _

end

end Sys2Proof.Machine
end

