-- ==== Sys2Proof/Laws/Params.lean ====
section
/-! SUPPORT. The parameters of this hardware meet what the spec requires of them, and what REPLY_KINDS is. -/

namespace Sys2Proof.Machine

/-- Every kind stands in the table of R300. -/
theorem mem_kindList (k : Kind) : k ∈ kindList := by cases k <;> decide

/-- No two rows of R300's default table share a code. -/
theorem kindCodes_nodup : (kindList.map kindCode).Nodup := by decide

/-- KIND is injective at its default codes (R7). -/
theorem kindCode_injective (a b : Kind) (h : kindCode a = kindCode b) : a = b :=
  List.inj_on_of_nodup_map kindCodes_nodup (mem_kindList a) (mem_kindList b) h

/-- The values R7 fixes are values the spec allows. -/
theorem hardware_valid : hardware.Valid where
  clkW_pos := by decide
  kind_injective := kindCode_injective
  device_ne_zero := by intro d; cases d <;> decide
  tDefault_lt := by decide
  tReset_lt := by decide

end Sys2Proof.Machine
end

