-- ==== Sys2Proof/Laws/Decode.lean ====
section
/-! SUPPORT. The small lemmas of the decoder and the encoder: what each side is on each form of input, the lookup of a
kind, and a 16-bit field against its two bytes. -/

namespace Sys2Proof

@[simp] theorem decode_op (c : Config) (w : OpWord) : decode c (.op w) = decodeOpWord w := rfl

@[simp] theorem decode_rx (c : Config) (bs : List Byte) : decode c (.rx bs) = decodeFrame c bs := rfl

theorem encode_por (c : Config) : encode c .por = .op 0x00000000 := rfl

theorem encode_feed (c : Config) (b : Byte) : encode c (.feed b) = .op ((0x100000 : BitVec 24) ++ b) := rfl

theorem encode_send (c : Config) (fb : Bool) (kind : Byte) (param : Half) :
    encode c (.send fb kind param) = .op ((0x10 : BitVec 7) ++ BitVec.ofBool fb ++ kind ++ param) := rfl

theorem encode_tick (c : Config) : encode c .tick = .op 0x30000000 := rfl

theorem encode_reset (c : Config) : encode c .reset = .op 0x40000000 := rfl

/-- A message instruction is encoded as the bytes of its frame. -/
theorem encode_message (c : Config) {i : Instr} {f : Machine.MsgFrame} (h : Machine.msgFrame? i = some f) :
    encode c i = .rx (frameBytes (c.kind f.kind) f.fb f.param f.tail) := by
  simp only [encode, h]

/-- The frame of a message instruction made from a frame is that frame. -/
theorem msgFrame?_ofMsgFrame (f : Machine.MsgFrame) : Machine.msgFrame? (Machine.ofMsgFrame f) = some f := by
  obtain ⟨kind, fb, param, tail⟩ := f
  cases kind <;> simp only [Machine.ofMsgFrame, Machine.msgFrame?]

/-- A message instruction made from its frame is that instruction. -/
theorem ofMsgFrame_of_msgFrame? (i : Instr) (f : Machine.MsgFrame) (h : Machine.msgFrame? i = some f) :
    Machine.ofMsgFrame f = i := by
  cases i <;> simp only [Machine.msgFrame?, Option.some.injEq, reduceCtorEq] at h <;> subst h <;>
    simp only [Machine.ofMsgFrame]

namespace Machine

/-- The lookup of a code that has a symbolic kind finds that kind, where KIND is injective (R7, R215). -/
theorem kindOf?_kind {c : Config} (h : c.Valid) (k : Kind) : kindOf? c (c.kind k) = some k := by
  suffices H : ∀ l : List Kind, k ∈ l → l.find? (fun k' => c.kind k' == c.kind k) = some k from
    H kindList (mem_kindList k)
  intro l
  induction l with
  | nil => simp
  | cons a l ih =>
    intro hm
    rw [List.find?_cons]
    by_cases ha : a = k
    · simp [ha]
    · have hne : (c.kind a == c.kind k) = false := by
        simpa using fun e => ha (h.kind_injective _ _ e)
      rw [hne]
      exact ih ((List.mem_cons.1 hm).resolve_left (Ne.symm ha))

/-- The lookup of a code that no symbolic kind has finds none (R300). -/
theorem kindOf?_none {c : Config} {b : Byte} (h : ∀ k, c.kind k ≠ b) : kindOf? c b = none := by
  simp [kindOf?, h]

/-- What the lookup finds has the code looked up. -/
theorem kind_of_kindOf? {c : Config} {b : Byte} {k : Kind} (h : kindOf? c b = some k) : c.kind k = b := by
  unfold kindOf? at h
  simpa using List.find?_some h

end Machine

/-- A 16-bit field is its high byte followed by its low byte (R73). -/
theorem bytes_append (v : Half) : v.extractLsb' 8 8 ++ v.extractLsb' 0 8 = v := by
  apply BitVec.eq_of_toNat_eq
  have := v.isLt
  simp only [BitVec.toNat_append, BitVec.extractLsb'_toNat, Nat.shiftRight_zero]
  rw [← Nat.shiftLeft_add_eq_or_of_lt (by omega), Nat.shiftLeft_eq, Nat.shiftRight_eq_div_pow]
  omega

/-- The high byte of a joined field (R73). -/
@[simp] theorem hi_append (hi lo : Byte) : ((hi ++ lo : BitVec (8 + 8)).extractLsb' 8 8) = hi := by
  apply BitVec.eq_of_toNat_eq
  have := hi.isLt
  have := lo.isLt
  simp only [BitVec.extractLsb'_toNat, BitVec.toNat_append]
  rw [← Nat.shiftLeft_add_eq_or_of_lt (by omega), Nat.shiftLeft_eq, Nat.shiftRight_eq_div_pow]
  omega

/-- The low byte of a joined field (R73). -/
@[simp] theorem lo_append (hi lo : Byte) : ((hi ++ lo : BitVec (8 + 8)).extractLsb' 0 8) = lo := by
  apply BitVec.eq_of_toNat_eq
  have := hi.isLt
  have := lo.isLt
  simp only [BitVec.extractLsb'_toNat, BitVec.toNat_append, Nat.shiftRight_zero]
  rw [← Nat.shiftLeft_add_eq_or_of_lt (by omega), Nat.shiftLeft_eq]
  omega

end Sys2Proof
end

