-- ==== Sys2Proof/Laws/PerInstr.lean ====
section
/-! SUPPORT. Facts about each instruction as syntax. -/

namespace Sys2Proof.Laws

namespace FrameOfMessage

/-- A message instruction is the instruction of its own frame. -/
def Statement (i : Instr) : Prop := ∀ f, Machine.msgFrame? i = some f → Machine.ofMsgFrame f = i

theorem por : Statement .por := by
  intro f h
  cases h

theorem feed (b : Byte) : Statement (.feed b) := by
  intro f h
  cases h

theorem send (fb : Bool) (kind : Byte) (param : Half) : Statement (.send fb kind param) := by
  intro f h
  cases h

theorem tick : Statement .tick := by
  intro f h
  cases h

theorem reset : Statement .reset := by
  intro f h
  cases h

theorem msgNext (fb : Byte) (param : Half) (tail : FrameTail) : Statement (.msgNext fb param tail) := by
  rintro _ ⟨⟩
  rfl

theorem msgPrevious (fb : Byte) (param : Half) (tail : FrameTail) : Statement (.msgPrevious fb param tail) := by
  rintro _ ⟨⟩
  rfl

theorem msgVolume (fb : Byte) (param : Half) (tail : FrameTail) : Statement (.msgVolume fb param tail) := by
  rintro _ ⟨⟩
  rfl

theorem msgEqualizer (fb : Byte) (param : Half) (tail : FrameTail) : Statement (.msgEqualizer fb param tail) := by
  rintro _ ⟨⟩
  rfl

theorem msgLoop (fb : Byte) (param : Half) (tail : FrameTail) : Statement (.msgLoop fb param tail) := by
  rintro _ ⟨⟩
  rfl

theorem msgSelectSource (fb : Byte) (param : Half) (tail : FrameTail) : Statement (.msgSelectSource fb param tail) := by
  rintro _ ⟨⟩
  rfl

theorem msgSleep (fb : Byte) (param : Half) (tail : FrameTail) : Statement (.msgSleep fb param tail) := by
  rintro _ ⟨⟩
  rfl

theorem msgWake (fb : Byte) (param : Half) (tail : FrameTail) : Statement (.msgWake fb param tail) := by
  rintro _ ⟨⟩
  rfl

theorem msgReset (fb : Byte) (param : Half) (tail : FrameTail) : Statement (.msgReset fb param tail) := by
  rintro _ ⟨⟩
  rfl

theorem msgPlay (fb : Byte) (param : Half) (tail : FrameTail) : Statement (.msgPlay fb param tail) := by
  rintro _ ⟨⟩
  rfl

theorem msgPause (fb : Byte) (param : Half) (tail : FrameTail) : Statement (.msgPause fb param tail) := by
  rintro _ ⟨⟩
  rfl

theorem msgPlayFromFolder (fb : Byte) (param : Half) (tail : FrameTail) : Statement (.msgPlayFromFolder fb param tail) := by
  rintro _ ⟨⟩
  rfl

theorem msgPlayFromBigFolder (fb : Byte) (param : Half) (tail : FrameTail) : Statement (.msgPlayFromBigFolder fb param tail) := by
  rintro _ ⟨⟩
  rfl

theorem msgStop (fb : Byte) (param : Half) (tail : FrameTail) : Statement (.msgStop fb param tail) := by
  rintro _ ⟨⟩
  rfl

theorem msgRandom (fb : Byte) (param : Half) (tail : FrameTail) : Statement (.msgRandom fb param tail) := by
  rintro _ ⟨⟩
  rfl

theorem msgDacEnable (fb : Byte) (param : Half) (tail : FrameTail) : Statement (.msgDacEnable fb param tail) := by
  rintro _ ⟨⟩
  rfl

theorem msgDeviceInserted (fb : Byte) (param : Half) (tail : FrameTail) : Statement (.msgDeviceInserted fb param tail) := by
  rintro _ ⟨⟩
  rfl

theorem msgDeviceRemoved (fb : Byte) (param : Half) (tail : FrameTail) : Statement (.msgDeviceRemoved fb param tail) := by
  rintro _ ⟨⟩
  rfl

theorem msgFinishedUsb (fb : Byte) (param : Half) (tail : FrameTail) : Statement (.msgFinishedUsb fb param tail) := by
  rintro _ ⟨⟩
  rfl

theorem msgFinishedSd (fb : Byte) (param : Half) (tail : FrameTail) : Statement (.msgFinishedSd fb param tail) := by
  rintro _ ⟨⟩
  rfl

theorem msgFinishedFlash (fb : Byte) (param : Half) (tail : FrameTail) : Statement (.msgFinishedFlash fb param tail) := by
  rintro _ ⟨⟩
  rfl

theorem msgInitComplete (fb : Byte) (param : Half) (tail : FrameTail) : Statement (.msgInitComplete fb param tail) := by
  rintro _ ⟨⟩
  rfl

theorem msgError (fb : Byte) (param : Half) (tail : FrameTail) : Statement (.msgError fb param tail) := by
  rintro _ ⟨⟩
  rfl

theorem msgAck (fb : Byte) (param : Half) (tail : FrameTail) : Statement (.msgAck fb param tail) := by
  rintro _ ⟨⟩
  rfl

theorem msgQStatus (fb : Byte) (param : Half) (tail : FrameTail) : Statement (.msgQStatus fb param tail) := by
  rintro _ ⟨⟩
  rfl

theorem msgQVolume (fb : Byte) (param : Half) (tail : FrameTail) : Statement (.msgQVolume fb param tail) := by
  rintro _ ⟨⟩
  rfl

theorem msgQEqualizer (fb : Byte) (param : Half) (tail : FrameTail) : Statement (.msgQEqualizer fb param tail) := by
  rintro _ ⟨⟩
  rfl

theorem msgQSequence (fb : Byte) (param : Half) (tail : FrameTail) : Statement (.msgQSequence fb param tail) := by
  rintro _ ⟨⟩
  rfl

theorem msgQFirmwareVersion (fb : Byte) (param : Half) (tail : FrameTail) : Statement (.msgQFirmwareVersion fb param tail) := by
  rintro _ ⟨⟩
  rfl

theorem msgQFileCountUsb (fb : Byte) (param : Half) (tail : FrameTail) : Statement (.msgQFileCountUsb fb param tail) := by
  rintro _ ⟨⟩
  rfl

theorem msgQFileCountSd (fb : Byte) (param : Half) (tail : FrameTail) : Statement (.msgQFileCountSd fb param tail) := by
  rintro _ ⟨⟩
  rfl

theorem msgQFileCountFlash (fb : Byte) (param : Half) (tail : FrameTail) : Statement (.msgQFileCountFlash fb param tail) := by
  rintro _ ⟨⟩
  rfl

theorem msgQCurrentFileUsb (fb : Byte) (param : Half) (tail : FrameTail) : Statement (.msgQCurrentFileUsb fb param tail) := by
  rintro _ ⟨⟩
  rfl

theorem msgQCurrentFileSd (fb : Byte) (param : Half) (tail : FrameTail) : Statement (.msgQCurrentFileSd fb param tail) := by
  rintro _ ⟨⟩
  rfl

theorem msgQCurrentFileFlash (fb : Byte) (param : Half) (tail : FrameTail) : Statement (.msgQCurrentFileFlash fb param tail) := by
  rintro _ ⟨⟩
  rfl

theorem msgQFolderTrackCount (fb : Byte) (param : Half) (tail : FrameTail) : Statement (.msgQFolderTrackCount fb param tail) := by
  rintro _ ⟨⟩
  rfl

theorem msgQFolderCount (fb : Byte) (param : Half) (tail : FrameTail) : Statement (.msgQFolderCount fb param tail) := by
  rintro _ ⟨⟩
  rfl

end FrameOfMessage

end Sys2Proof.Laws
end

