-- ==== Sys2Proof/Laws/Receive.lean ====
section
/-! SUPPORT. The checksum sum as a number, and the bytes of one frame fed to an open parser, up to the completion. -/

namespace Sys2Proof.Machine

section
variable (c : Config)

/-- The sum of R103 over the normative span, as a number: four bytes never wrap 16 bits. -/
theorem checksumSum_payload (h : c.chkSpan = .payload) (k f ph pl : Byte) :
    (checksumSum c k f ph pl).toNat = k.toNat + f.toNat + ph.toNat + pl.toNat := by
  have e : checksumSum c k f ph pl =
      0#16 + k.zeroExtend 16 + f.zeroExtend 16 + ph.zeroExtend 16 + pl.zeroExtend 16 := by
    simp [checksumSum, h, spanOffsets, frameByteAt]
  rw [e]
  simp only [BitVec.truncate_eq_setWidth, BitVec.toNat_add, BitVec.toNat_setWidth, BitVec.toNat_ofNat]
  have := k.isLt
  have := f.isLt
  have := ph.isLt
  have := pl.isLt
  omega

/-- The sum of R103 over the alternative span, as a number. -/
theorem checksumSum_headerAndPayload (h : c.chkSpan = .headerAndPayload) (k f ph pl : Byte) :
    (checksumSum c k f ph pl).toNat = 0xFF + 0x06 + k.toNat + f.toNat + ph.toNat + pl.toNat := by
  have e : checksumSum c k f ph pl =
      0x105#16 + k.zeroExtend 16 + f.zeroExtend 16 + ph.zeroExtend 16 + pl.zeroExtend 16 := by
    simp [checksumSum, h, spanOffsets, frameByteAt, verByte, lenByte]
  rw [e]
  simp only [BitVec.truncate_eq_setWidth, BitVec.toNat_add, BitVec.toNat_setWidth, BitVec.toNat_ofNat]
  have := k.isLt
  have := f.isLt
  have := ph.isLt
  have := pl.isLt
  omega

/-- A full record is valid exactly when the bytes and the checksum sum to 0 mod 2^16, at this hardware (R148). -/
theorem recordValid_hardware (k f : Byte) (p chk : Half) :
    recordValid hardware ⟨k, f, p, some chk⟩ = true ↔
      (k.toNat + f.toNat + (hiByte p).toNat + (loByte p).toNat + chk.toNat) % 2 ^ 16 = 0 := by
  simp only [recordValid, beq_iff_eq]
  rw [← BitVec.toNat_inj, BitVec.toNat_add, checksumSum_payload hardware rfl]
  simp

/-- START at offset 0, 1 or 2 begins a frame (R142, R143). -/
theorem feedByte_start {s : State} (h : s.rxCur = .at0 ∨ s.rxCur = .at1 ∨ s.rxCur = .at2) :
    feedByte c startByte s = (s.setRxCur .at1).pushOut (.feed false false) := by
  rcases h with h | h | h <;>
    simp [feedByte, h, feedTemplate, nextCursor, resync, startByte, verByte, lenByte]

/-- The first seven bytes of a frame, fed to an open parser, leave it at offset 7 (R142, R144). -/
theorem feedBytes_head {s : State} (h : s.rxCur = .at0 ∨ s.rxCur = .at1 ∨ s.rxCur = .at2) (k f ph pl : Byte)
    (rest : List Byte) :
    feedBytes c (startByte :: verByte :: lenByte :: k :: f :: ph :: pl :: rest) s.clearOut =
      feedBytes c rest
        { s with
          rxCur := .at7, rxBuf := { s.rxBuf with kind := k, fb := f, paramHi := ph, paramLo := pl },
          stepOut := List.replicate 7 (.feed false false) } := by
  simp only [feedBytes]
  rw [feedByte_start c (by exact h)]
  simp [feedByte, State.setRxCur, State.pushOut, State.clearOut, feedTemplate, feedStored, State.storeRx, storeCell,
    nextCursor, List.replicate]

/-- A full frame whose chk_hi is not END completes on its tenth byte (R145, R146). -/
theorem feedBytes_full {s : State} (h : s.rxCur = .at0 ∨ s.rxCur = .at1 ∨ s.rxCur = .at2) (k f ph pl ch cl : Byte)
    (hc : ch ≠ endByte) :
    feedBytes c [startByte, verByte, lenByte, k, f, ph, pl, ch, cl, endByte] s.clearOut =
      complete c ⟨k, f, ph ++ pl, some (ch ++ cl)⟩
        { s with
          rxCur := .at0, rxBuf := ⟨k, f, ph, pl, ch, cl⟩, stepOut := List.replicate 9 (.feed false false) } := by
  rw [feedBytes_head c h]
  simp [feedBytes, feedByte, hc, feedStored, State.storeRx, storeCell, nextCursor, State.setRxCur, State.pushOut,
    fullRecord, joinBytes, List.replicate]

/-- END at offset 7 completes a short frame, whatever follows (R145). -/
theorem feedBytes_short {s : State} (h : s.rxCur = .at0 ∨ s.rxCur = .at1 ∨ s.rxCur = .at2) (k f ph pl : Byte)
    (rest : List Byte) :
    feedBytes c (startByte :: verByte :: lenByte :: k :: f :: ph :: pl :: endByte :: rest) s.clearOut =
      feedBytes c rest
        (complete c ⟨k, f, ph ++ pl, none⟩
          { s with
            rxCur := .at0, rxBuf := { s.rxBuf with kind := k, fb := f, paramHi := ph, paramLo := pl },
            stepOut := List.replicate 7 (.feed false false) }) := by
  rw [feedBytes_head c h]
  simp [feedBytes, feedByte, State.setRxCur, shortRecord, joinBytes]

end

end Sys2Proof.Machine
end

