-- ==== Sys2Proof/Laws/Step.lean ====
section
/-! SUPPORT. exec and step as the general block at this hardware's parameters, a message instruction as its frame, the five port
operations as the other instructions, and the one induction behind an invariant of a step. -/

namespace Sys2Proof.Machine

/-- exec is the general instruction at the values R7 fixes. -/
theorem exec_eq_perform (i : Instr) (s : State) : exec i s = .next (perform hardware i s) := by cases i <;> rfl

/-- step is the general step at the values R7 fixes. -/
theorem step_eq_stepWith (s : State) : step s = stepWith hardware s := by
  unfold step stepWith
  exact congrArg (stepBy hardware · s) (funext fun i => funext fun t => exec_eq_perform i t)

/-- A message instruction is its frame arriving (log 1). -/
theorem perform_message (c : Config) {i : Instr} {f : MsgFrame} (h : msgFrame? i = some f) (s : State) :
    perform c i s = receiveFrame c f.kind f.fb f.param f.tail s := by
  cases i <;> cases h <;> rfl

/-- The same of exec. -/
theorem exec_message {i : Instr} {f : MsgFrame} (h : msgFrame? i = some f) (s : State) :
    exec i s = .next (receiveFrame hardware f.kind f.fb f.param f.tail s) := by
  rw [exec_eq_perform, perform_message hardware h]

/-- An instruction that is no message is one of the five port operations (R12). -/
theorem portOp_of_not_message (i : Instr) (h : msgFrame? i = none) :
    i = .por ∨ (∃ b, i = .feed b) ∨ (∃ fb k p, i = .send fb k p) ∨ i = .tick ∨ i = .reset := by
  cases i <;> simp [msgFrame?] at h ⊢

/-- Everything a step that answers a next state can do: wait, or take the oldest input and perform the instruction it
decodes to or receive its bytes. -/
theorem stepWith_cases (c : Config) {s t : State} (h : stepWith c s = .next t) :
    t = s ∨ (∃ i, t = perform c i (takeInput c s)) ∨ ∃ bs, t = receiveBytes c bs (takeInput c s) := by
  unfold stepWith stepBy at h
  split at h
  · cases h
    exact .inl rfl
  · cases h
    exact .inr (.inl ⟨_, rfl⟩)
  · cases h
    exact .inr (.inr ⟨_, rfl⟩)
  · cases h

/-- A property that the shared operations keep is kept by every step, whatever the parameters. -/
theorem stepWith_keeps (c : Config) (P : State → Prop)
    (hfeed : ∀ b s, P s → P (feedByte c b s))
    (hclear : ∀ s, P s → P s.clearOut)
    (htake : ∀ s now rest, P s → P (s.take c now rest))
    (hpor : ∀ s : State, P s → P s.clearOut.powerOn)
    (hsend : ∀ k p fb s, P s → P (txFrame c k p fb c.tDefault s))
    (htick : ∀ s, P s → P (tickTimer c s))
    (hreset : ∀ s, P s → P (restartBringup c s)) (s t : State) (h : P s) (he : stepWith c s = .next t) : P t := by
  have hfeeds : ∀ bs s, P s → P (feedBytes c bs s) := by
    intro bs
    induction bs with
    | nil => exact fun _ h => h
    | cons b bs ih => exact fun s h => ih _ (hfeed b s h)
  have htk : P (takeInput c s) := by
    unfold takeInput
    split
    · exact h
    · exact htake _ _ _ h
  rcases stepWith_cases c he with rfl | ⟨i, rfl⟩ | ⟨bs, rfl⟩
  · exact h
  · cases hm : msgFrame? i with
    | some f =>
      rw [perform_message c hm]
      exact hfeeds _ _ (hclear _ htk)
    | none =>
      rcases portOp_of_not_message i hm with rfl | ⟨b, rfl⟩ | ⟨_, _, _, rfl⟩ | rfl | rfl
      · exact hpor _ htk
      · exact hfeed _ _ (hclear _ htk)
      · exact hsend _ _ _ _ (hclear _ htk)
      · exact htick _ (hclear _ htk)
      · exact hreset _ (hclear _ htk)
  · exact hfeeds _ _ (hclear _ htk)

/-- The same of a step of this hardware. -/
theorem step_keeps (P : State → Prop)
    (hfeed : ∀ b s, P s → P (feedByte hardware b s))
    (hclear : ∀ s, P s → P s.clearOut)
    (htake : ∀ s now rest, P s → P (s.take hardware now rest))
    (hpor : ∀ s : State, P s → P s.clearOut.powerOn)
    (hsend : ∀ k p fb s, P s → P (txFrame hardware k p fb hardware.tDefault s))
    (htick : ∀ s, P s → P (tickTimer hardware s))
    (hreset : ∀ s, P s → P (restartBringup hardware s)) (s t : State) (h : P s) (he : step s = .next t) : P t :=
  stepWith_keeps hardware P hfeed hclear htake hpor hsend htick hreset s t h (step_eq_stepWith s ▸ he)

end Sys2Proof.Machine
end

