-- ==== Sys2Proof/Laws/Timer.lean ====
section
/-! SUPPORT. The timer's level test as an inequality of naturals, differences of times mod 2^CLK_W, TICK at this hardware's DISARM_POINT, and that the FSM and
DISPATCH_FRAME do not read the step outputs. -/

namespace Sys2Proof.Machine

section
variable (c : Config) (s : State)

/-- An elapsed time is a number of CLK_W bits. -/
theorem elapsed_lt (now since : Nat) : elapsed c now since < 2 ^ c.clkW := Nat.mod_lt _ (by positivity)

/-- The signed difference is not negative exactly in the lower half of the range (R10, R190). -/
theorem signedClock_nonneg {x : Nat} (h : x < 2 ^ c.clkW) : 0 ≤ signedClock c x ↔ x < 2 ^ (c.clkW - 1) := by
  unfold signedClock
  split_ifs with hx
  · exact iff_of_true (Int.natCast_nonneg x) hx
  · exact iff_of_false (by omega) hx

/-- EXPIRED as an inequality: armed, and `now` less than 2^(CLK_W-1) units after the deadline (R181, R190). -/
theorem expired_iff :
    s.expired c = true ↔ s.tmrArmed = true ∧ elapsed c s.now s.tmrDeadline < 2 ^ (c.clkW - 1) := by
  unfold State.expired
  rw [Bool.and_eq_true, decide_eq_true_eq, signedClock_nonneg c (elapsed_lt c _ _)]

/-- The elapsed time is the difference mod 2^CLK_W, the remainder being that of R10. -/
theorem elapsed_emod (now since : Nat) : (elapsed c now since : Int) = ((now : Int) - since) % 2 ^ c.clkW := by
  have h := (Nat.mod_lt since (Nat.two_pow_pos c.clkW)).le
  unfold elapsed
  rw [Int.natCast_mod, Nat.cast_add, Nat.cast_sub h, Int.natCast_mod, Nat.cast_pow, Nat.cast_ofNat, Int.emod_def (since : Int),
    show (now : Int) + (2 ^ c.clkW - (since - 2 ^ c.clkW * (since / 2 ^ c.clkW))) =
      (now - since) + 2 ^ c.clkW * (1 + since / 2 ^ c.clkW) by ring, Int.add_mul_emod_self_left]

/-- How far `t` lies after the time `d` units after `t0` (R180, R190). -/
theorem elapsed_timeAfter (t t0 d : Nat) :
    (elapsed c t (timeAfter c t0 d) : Int) = ((t : Int) - t0 - d) % 2 ^ c.clkW := by
  rw [elapsed_emod, timeAfter, Int.natCast_mod, Nat.cast_pow, Nat.cast_ofNat, Int.sub_emod_emod, Nat.cast_add, sub_sub]

/-- TICK with DISARM_POINT = BEFORE_DISPATCH, which this hardware has (R185, R186). -/
theorem tickTimer_hardware :
    tickTimer hardware s =
      if s.expired hardware then (dispatchTimeout hardware s.cancel).pushOut (.tick true) else s.pushOut (.tick false) :=
  rfl

/-- FSM_STEP does not read the step outputs (R45). -/
theorem fsmStep_withStepOut (ev : FsmEvent) (o : List StepOutput) :
    fsmStep c ev { s with stepOut := o } = { fsmStep c ev s with stepOut := o } := by
  obtain ⟨rc, rb, ta, td, fs, re, sd, fc, fo, tx, sk, nw, pe, so⟩ := s
  cases fs <;>
    simp only [fsmStep, handleResettingHardware, handleGettingVersion, handleCheckingUsb, handleCheckingSd,
      handleSelectingUsb, handleSelectingSd, handleCheckingFolder] <;>
    (try split_ifs) <;> rfl

/-- DISPATCH_FRAME does not read the step outputs (R45). -/
theorem dispatchFrame_withStepOut (fr : FrameRecord) (o : List StepOutput) :
    dispatchFrame c fr { s with stepOut := o } = { dispatchFrame c fr s with stepOut := o } := by
  by_cases h : s.fsmState = .none
  · rw [dispatchFrame_idle c s fr h, dispatchFrame_idle c { s with stepOut := o } fr h]
  · rw [dispatchFrame_active c s fr h, dispatchFrame_active c { s with stepOut := o } fr h,
      fsmStep_withStepOut c s]
    rfl

end

end Sys2Proof.Machine
end

