-- ==== Sys2Proof/Tests/Slice0.lean ====
section
/-! SUPPORT. Small tests on fixed values, taken from spec/95_test_vectors.md (the vector's name stands in the docstring) or worked by
hand from the rules, and one witness for each statement that has hypotheses. -/

namespace Sys2Proof.Tests

open Sys2Proof.Machine

/-! ## Helpers -/

/-- The next state of an outcome. -/
def next? : Host.Outcome State Fault Refusal → Option State
  | .next s => some s
  | .fault _ => none
  | .refused _ => none

/-- Why an outcome refuses. -/
def refusal? : Host.Outcome State Fault Refusal → Option Refusal
  | .refused r => some r
  | _ => none

/-- One step on one word of the opcode table, presented at time `t`. -/
def runAt (t : Nat) (nbits w : Nat) (s : State) : Option State :=
  next? (step (({ s with now := t } : State).withFetchWord nbits w))

/-- What one step on a word adds to SINK_LOG, and the last step output. -/
def told (nbits w : Nat) (s : State) : Option (List Notification × Option StepOutput) :=
  (runAt s.now nbits w s).map fun t => (t.sinkLog, t.stepOut.getLast?)

/-- Bring-up is active in this state, with its deadline at 200. -/
def active (f : FsmState) : State :=
  { State.reset with fsmState := f, result := .inProgress, tmrArmed := true, tmrDeadline := 200 }

/-- The parser is at this offset with the bytes of an ACK frame stored. -/
def parsing (cur : RxCursor) : State :=
  { State.reset with rxCur := cur, rxBuf := ⟨0x41, 0x00, 0x00, 0x00, 0xFF, 0xBF⟩ }

/-- Steady state with a request outstanding, its deadline at 200. -/
def waiting : State := { State.reset with tmrArmed := true, tmrDeadline := 200 }

/-- This hardware with the alternative DISARM_POINT. -/
def disarmAfter : Config := { hardware with disarmPoint := .afterDispatch }

theorem disarmAfter_valid : disarmAfter.Valid :=
  ⟨hardware_valid.clkW_pos, hardware_valid.kind_injective, hardware_valid.device_ne_zero, hardware_valid.tDefault_lt,
    hardware_valid.tReset_lt⟩

/-- This block with another CLK_W: 16 bits, the shortest of whole bytes that both durations fit. -/
def clock16 : Config := { hardware with clkW := 16 }

theorem clock16_valid : clock16.Valid :=
  ⟨by decide, hardware_valid.kind_injective, hardware_valid.device_ne_zero, by decide, by decide⟩

/-! ## Well-formedness -/

/-- Ill-formed: a full frame whose chk_hi is END (R145). -/
theorem test_wf_refuses_chk_hi_end : (Instr.msgAck 0 0 (.full 0xEFBF)).wf = false := by decide

/-- Well-formed: the same frame with its checksum, the short frame, and a port operation. -/
theorem test_wf_accepts :
    (Instr.msgAck 0 0 (.full 0xFFBF)).wf = true ∧ (Instr.msgAck 0 0 .short).wf = true ∧ Instr.tick.wf = true := by decide

/-! ## Decoding: one word for every constructor, written out from R100, R101, R109, R110 (L2.1, L2.9) -/

/-- W1 -/
theorem test_decode_por : decodeTableWord 32 0x00000000 = some .por := by decide

/-- W2, W3 -/
theorem test_decode_feed :
    decodeTableWord 32 0x1000007E = some (.feed 0x7E) ∧ decodeTableWord 32 0x100000EF = some (.feed 0xEF) := by decide

/-- W4, W6 -/
theorem test_decode_send :
    decodeTableWord 32 0x20430000 = some (.send false 0x43 0x0000) ∧
    decodeTableWord 32 0x21141100 = some (.send true 0x14 0x1100) := by decide

/-- W8 -/
theorem test_decode_tick : decodeTableWord 32 0x30000000 = some .tick := by decide

/-- W9 -/
theorem test_decode_reset : decodeTableWord 32 0x40000000 = some .reset := by decide

/-- W10, W11: reserved opc. -/
theorem test_decode_reserved_opc :
    decodeOpWord 0x50000000 = .error .reservedOpc ∧ decodeOpWord 0xF0000000 = .error .reservedOpc := by decide

/-- W12 to W16: a bit that must be 0. -/
theorem test_decode_must_be_zero :
    decodeOpWord 0x10000100 = .error .mustBeZero ∧ decodeOpWord 0x22000000 = .error .mustBeZero ∧
    decodeOpWord 0x30000001 = .error .mustBeZero ∧ decodeOpWord 0x01000000 = .error .mustBeZero ∧
    decodeOpWord 0x40010000 = .error .mustBeZero := by decide

/-- The reserved words W10 and W14, presented to the block, are refused (R110). -/
theorem test_step_refuses_reserved_words :
    refusal? (step (State.reset.withFetchWord 32 0x50000000)) = some .reservedOpc ∧
    refusal? (step (State.reset.withFetchWord 32 0x30000001)) = some .mustBeZero := by decide

/-- The encoder writes W2, W6 and the ACK frame of L2.1, in full and short. -/
theorem test_encode :
    encode hardware (.feed 0x7E) = .op 0x1000007E ∧ encode hardware (.send true 0x14 0x1100) = .op 0x21141100 ∧
    encode hardware (.msgAck 0x00 0x0000 (.full 0xFFBF)) = .rx [0x7E, 0xFF, 0x06, 0x41, 0x00, 0x00, 0x00, 0xFF, 0xBF, 0xEF] ∧
    encode hardware (.msgAck 0x00 0x0000 .short) = .rx [0x7E, 0xFF, 0x06, 0x41, 0x00, 0x00, 0x00, 0xEF] := by decide

/-- The short frame of L2.3 F2, and a wrong END, a wrong VER and an unknown kind, which no row matches. -/
theorem test_decode_short_and_no_row :
    decodeTableWord 64 0x7EFF0641000000EF = some (.msgAck 0 0 .short) ∧
    decodeTableWord 80 0x7EFF0641000000FFBFEE = none ∧ decodeTableWord 80 0x7EFE0641000000FFBFEF = none ∧
    decodeTableWord 80 0x7EFF0699001234FF21EF = none := by decide

/-- NEXT (R310) -/
theorem test_decode_msgNext :
    decodeTableWord 80 0x7EFF0601010000FFFEEF = some (.msgNext 0x01 0x0000 (.full 0xFFFE)) := by decide

/-- PREVIOUS (R311) -/
theorem test_decode_msgPrevious :
    decodeTableWord 80 0x7EFF0602010000FFFDEF = some (.msgPrevious 0x01 0x0000 (.full 0xFFFD)) := by decide

/-- VOLUME (R317) -/
theorem test_decode_msgVolume :
    decodeTableWord 80 0x7EFF0606010000FFF9EF = some (.msgVolume 0x01 0x0000 (.full 0xFFF9)) := by decide

/-- EQUALIZER (R318) -/
theorem test_decode_msgEqualizer :
    decodeTableWord 80 0x7EFF0607010000FFF8EF = some (.msgEqualizer 0x01 0x0000 (.full 0xFFF8)) := by decide

/-- LOOP (R315) -/
theorem test_decode_msgLoop :
    decodeTableWord 80 0x7EFF0608010000FFF7EF = some (.msgLoop 0x01 0x0000 (.full 0xFFF7)) := by decide

/-- SELECT_SOURCE (R323) -/
theorem test_decode_msgSelectSource :
    decodeTableWord 80 0x7EFF0609010000FFF6EF = some (.msgSelectSource 0x01 0x0000 (.full 0xFFF6)) := by decide

/-- SLEEP (R319) -/
theorem test_decode_msgSleep :
    decodeTableWord 80 0x7EFF060A010000FFF5EF = some (.msgSleep 0x01 0x0000 (.full 0xFFF5)) := by decide

/-- WAKE (R320) -/
theorem test_decode_msgWake :
    decodeTableWord 80 0x7EFF060B010000FFF4EF = some (.msgWake 0x01 0x0000 (.full 0xFFF4)) := by decide

/-- RESET (R322) -/
theorem test_decode_msgReset :
    decodeTableWord 80 0x7EFF060C010000FFF3EF = some (.msgReset 0x01 0x0000 (.full 0xFFF3)) := by decide

/-- PLAY (R312) -/
theorem test_decode_msgPlay :
    decodeTableWord 80 0x7EFF060D010000FFF2EF = some (.msgPlay 0x01 0x0000 (.full 0xFFF2)) := by decide

/-- PAUSE (R313) -/
theorem test_decode_msgPause :
    decodeTableWord 80 0x7EFF060E010000FFF1EF = some (.msgPause 0x01 0x0000 (.full 0xFFF1)) := by decide

/-- PLAY_FROM_FOLDER (R324) -/
theorem test_decode_msgPlayFromFolder :
    decodeTableWord 80 0x7EFF060F010000FFF0EF = some (.msgPlayFromFolder 0x01 0x0000 (.full 0xFFF0)) := by decide

/-- PLAY_FROM_BIG_FOLDER (R325) -/
theorem test_decode_msgPlayFromBigFolder :
    decodeTableWord 80 0x7EFF0614010000FFEBEF = some (.msgPlayFromBigFolder 0x01 0x0000 (.full 0xFFEB)) := by decide

/-- STOP (R314) -/
theorem test_decode_msgStop :
    decodeTableWord 80 0x7EFF0616010000FFE9EF = some (.msgStop 0x01 0x0000 (.full 0xFFE9)) := by decide

/-- RANDOM (R316) -/
theorem test_decode_msgRandom :
    decodeTableWord 80 0x7EFF0618010000FFE7EF = some (.msgRandom 0x01 0x0000 (.full 0xFFE7)) := by decide

/-- DAC_ENABLE (R321) -/
theorem test_decode_msgDacEnable :
    decodeTableWord 80 0x7EFF061A010000FFE5EF = some (.msgDacEnable 0x01 0x0000 (.full 0xFFE5)) := by decide

/-- DEVICE_INSERTED (R330) -/
theorem test_decode_msgDeviceInserted :
    decodeTableWord 80 0x7EFF063A000000FFC6EF = some (.msgDeviceInserted 0x00 0x0000 (.full 0xFFC6)) := by decide

/-- DEVICE_REMOVED (R331) -/
theorem test_decode_msgDeviceRemoved :
    decodeTableWord 80 0x7EFF063B000000FFC5EF = some (.msgDeviceRemoved 0x00 0x0000 (.full 0xFFC5)) := by decide

/-- FINISHED_USB (R332) -/
theorem test_decode_msgFinishedUsb :
    decodeTableWord 80 0x7EFF063C000000FFC4EF = some (.msgFinishedUsb 0x00 0x0000 (.full 0xFFC4)) := by decide

/-- FINISHED_SD (R333) -/
theorem test_decode_msgFinishedSd :
    decodeTableWord 80 0x7EFF063D000000FFC3EF = some (.msgFinishedSd 0x00 0x0000 (.full 0xFFC3)) := by decide

/-- FINISHED_FLASH (R334) -/
theorem test_decode_msgFinishedFlash :
    decodeTableWord 80 0x7EFF063E000000FFC2EF = some (.msgFinishedFlash 0x00 0x0000 (.full 0xFFC2)) := by decide

/-- INIT_COMPLETE (R335) -/
theorem test_decode_msgInitComplete :
    decodeTableWord 80 0x7EFF063F000000FFC1EF = some (.msgInitComplete 0x00 0x0000 (.full 0xFFC1)) := by decide

/-- ERROR (R336) -/
theorem test_decode_msgError :
    decodeTableWord 80 0x7EFF0640000000FFC0EF = some (.msgError 0x00 0x0000 (.full 0xFFC0)) := by decide

/-- ACK (R337) -/
theorem test_decode_msgAck :
    decodeTableWord 80 0x7EFF0641000000FFBFEF = some (.msgAck 0x00 0x0000 (.full 0xFFBF)) := by decide

/-- Q_STATUS (R340) -/
theorem test_decode_msgQStatus :
    decodeTableWord 80 0x7EFF0642000000FFBEEF = some (.msgQStatus 0x00 0x0000 (.full 0xFFBE)) := by decide

/-- Q_VOLUME (R341) -/
theorem test_decode_msgQVolume :
    decodeTableWord 80 0x7EFF0643000000FFBDEF = some (.msgQVolume 0x00 0x0000 (.full 0xFFBD)) := by decide

/-- Q_EQUALIZER (R342) -/
theorem test_decode_msgQEqualizer :
    decodeTableWord 80 0x7EFF0644000000FFBCEF = some (.msgQEqualizer 0x00 0x0000 (.full 0xFFBC)) := by decide

/-- Q_SEQUENCE (R343) -/
theorem test_decode_msgQSequence :
    decodeTableWord 80 0x7EFF0645000000FFBBEF = some (.msgQSequence 0x00 0x0000 (.full 0xFFBB)) := by decide

/-- Q_FIRMWARE_VERSION (R344) -/
theorem test_decode_msgQFirmwareVersion :
    decodeTableWord 80 0x7EFF0646000000FFBAEF = some (.msgQFirmwareVersion 0x00 0x0000 (.full 0xFFBA)) := by decide

/-- Q_FILE_COUNT_USB (R345) -/
theorem test_decode_msgQFileCountUsb :
    decodeTableWord 80 0x7EFF0647000000FFB9EF = some (.msgQFileCountUsb 0x00 0x0000 (.full 0xFFB9)) := by decide

/-- Q_FILE_COUNT_SD (R346) -/
theorem test_decode_msgQFileCountSd :
    decodeTableWord 80 0x7EFF0648000000FFB8EF = some (.msgQFileCountSd 0x00 0x0000 (.full 0xFFB8)) := by decide

/-- Q_FILE_COUNT_FLASH (R347) -/
theorem test_decode_msgQFileCountFlash :
    decodeTableWord 80 0x7EFF0649000000FFB7EF = some (.msgQFileCountFlash 0x00 0x0000 (.full 0xFFB7)) := by decide

/-- Q_CURRENT_FILE_USB (R348) -/
theorem test_decode_msgQCurrentFileUsb :
    decodeTableWord 80 0x7EFF064B000000FFB5EF = some (.msgQCurrentFileUsb 0x00 0x0000 (.full 0xFFB5)) := by decide

/-- Q_CURRENT_FILE_SD (R349) -/
theorem test_decode_msgQCurrentFileSd :
    decodeTableWord 80 0x7EFF064C000000FFB4EF = some (.msgQCurrentFileSd 0x00 0x0000 (.full 0xFFB4)) := by decide

/-- Q_CURRENT_FILE_FLASH (R350) -/
theorem test_decode_msgQCurrentFileFlash :
    decodeTableWord 80 0x7EFF064D000000FFB3EF = some (.msgQCurrentFileFlash 0x00 0x0000 (.full 0xFFB3)) := by decide

/-- Q_FOLDER_TRACK_COUNT (R351) -/
theorem test_decode_msgQFolderTrackCount :
    decodeTableWord 80 0x7EFF064E000000FFB2EF = some (.msgQFolderTrackCount 0x00 0x0000 (.full 0xFFB2)) := by decide

/-- Q_FOLDER_COUNT (R352) -/
theorem test_decode_msgQFolderCount :
    decodeTableWord 80 0x7EFF064F000000FFB1EF = some (.msgQFolderCount 0x00 0x0000 (.full 0xFFB1)) := by decide

/-! ## One step of every message kind (L2.7; a command frame as in M25) -/

/-- NEXT: as M25 -/
theorem test_step_msgNext : told 80 0x7EFF0601000000FFFFEF State.reset = some ([], some (.feed true true)) := by decide

/-- PREVIOUS: as M25 -/
theorem test_step_msgPrevious : told 80 0x7EFF0602000000FFFEEF State.reset = some ([], some (.feed true true)) := by decide

/-- VOLUME: as M25 -/
theorem test_step_msgVolume : told 80 0x7EFF0606000000FFFAEF State.reset = some ([], some (.feed true true)) := by decide

/-- EQUALIZER: as M25 -/
theorem test_step_msgEqualizer : told 80 0x7EFF0607000000FFF9EF State.reset = some ([], some (.feed true true)) := by decide

/-- LOOP: as M25 -/
theorem test_step_msgLoop : told 80 0x7EFF0608000000FFF8EF State.reset = some ([], some (.feed true true)) := by decide

/-- SELECT_SOURCE: as M25 -/
theorem test_step_msgSelectSource : told 80 0x7EFF0609000000FFF7EF State.reset = some ([], some (.feed true true)) := by decide

/-- SLEEP: as M25 -/
theorem test_step_msgSleep : told 80 0x7EFF060A000000FFF6EF State.reset = some ([], some (.feed true true)) := by decide

/-- WAKE: as M25 -/
theorem test_step_msgWake : told 80 0x7EFF060B000000FFF5EF State.reset = some ([], some (.feed true true)) := by decide

/-- RESET: as M25 -/
theorem test_step_msgReset : told 80 0x7EFF060C000000FFF4EF State.reset = some ([], some (.feed true true)) := by decide

/-- PLAY: as M25 -/
theorem test_step_msgPlay : told 80 0x7EFF060D000000FFF3EF State.reset = some ([], some (.feed true true)) := by decide

/-- PAUSE: as M25 -/
theorem test_step_msgPause : told 80 0x7EFF060E000000FFF2EF State.reset = some ([], some (.feed true true)) := by decide

/-- PLAY_FROM_FOLDER: as M25 -/
theorem test_step_msgPlayFromFolder : told 80 0x7EFF060F000000FFF1EF State.reset = some ([], some (.feed true true)) := by decide

/-- PLAY_FROM_BIG_FOLDER: as M25 -/
theorem test_step_msgPlayFromBigFolder : told 80 0x7EFF0614000000FFECEF State.reset = some ([], some (.feed true true)) := by decide

/-- STOP: as M25 -/
theorem test_step_msgStop : told 80 0x7EFF0616000000FFEAEF State.reset = some ([], some (.feed true true)) := by decide

/-- RANDOM: as M25 -/
theorem test_step_msgRandom : told 80 0x7EFF0618000000FFE8EF State.reset = some ([], some (.feed true true)) := by decide

/-- DAC_ENABLE: as M25 -/
theorem test_step_msgDacEnable : told 80 0x7EFF061A000000FFE6EF State.reset = some ([], some (.feed true true)) := by decide

/-- DEVICE_INSERTED: M1 -/
theorem test_step_msgDeviceInserted : told 80 0x7EFF063A000007FFBFEF State.reset = some ([.deviceInserted .usb, .deviceInserted .sd, .deviceInserted .aux], some (.feed true true)) := by decide

/-- DEVICE_REMOVED: M4 -/
theorem test_step_msgDeviceRemoved : told 80 0x7EFF063B000005FFC0EF State.reset = some ([.deviceRemoved .usb, .deviceRemoved .aux], some (.feed true true)) := by decide

/-- FINISHED_USB: M5 -/
theorem test_step_msgFinishedUsb : told 80 0x7EFF063C000007FFBDEF State.reset = some ([.fileFinished .usb 7], some (.feed true true)) := by decide

/-- FINISHED_SD: M6 -/
theorem test_step_msgFinishedSd : told 80 0x7EFF063D000012FFB1EF State.reset = some ([.fileFinished .sd 18], some (.feed true true)) := by decide

/-- FINISHED_FLASH: M7 -/
theorem test_step_msgFinishedFlash : told 80 0x7EFF063E00FFFFFDC4EF State.reset = some ([.fileFinished .flash 65535], some (.feed true true)) := by decide

/-- INIT_COMPLETE: M8 -/
theorem test_step_msgInitComplete : told 80 0x7EFF063F000013FFAEEF State.reset = some ([.initComplete true true false true], some (.feed true true)) := by decide

/-- ERROR: M10 -/
theorem test_step_msgError : told 80 0x7EFF0640000102FFBDEF State.reset = some ([.error (.wireCode 0x0102)], some (.feed true true)) := by decide

/-- ACK: M11 -/
theorem test_step_msgAck : told 80 0x7EFF0641000000FFBFEF State.reset = some ([.ack], some (.feed true true)) := by decide

/-- Q_STATUS: M12 -/
theorem test_step_msgQStatus : told 80 0x7EFF0642000201FFBBEF State.reset = some ([.status 0x02 0x01], some (.feed true true)) := by decide

/-- Q_VOLUME: M13 -/
theorem test_step_msgQVolume : told 80 0x7EFF064300001EFF9FEF State.reset = some ([.volume 30], some (.feed true true)) := by decide

/-- Q_EQUALIZER: M14 -/
theorem test_step_msgQEqualizer : told 80 0x7EFF0644000002FFBAEF State.reset = some ([.equalizer 2], some (.feed true true)) := by decide

/-- Q_SEQUENCE: M15 -/
theorem test_step_msgQSequence : told 80 0x7EFF0645000001FFBAEF State.reset = some ([.sequence 1], some (.feed true true)) := by decide

/-- Q_FIRMWARE_VERSION: M16 -/
theorem test_step_msgQFirmwareVersion : told 80 0x7EFF0646000008FFB2EF State.reset = some ([.firmwareVersion 8], some (.feed true true)) := by decide

/-- Q_FILE_COUNT_USB: M17 -/
theorem test_step_msgQFileCountUsb : told 80 0x7EFF064700002AFF8FEF State.reset = some ([.fileCount .usb 42], some (.feed true true)) := by decide

/-- Q_FILE_COUNT_SD: M18 -/
theorem test_step_msgQFileCountSd : told 80 0x7EFF0648000009FFAFEF State.reset = some ([.fileCount .sd 9], some (.feed true true)) := by decide

/-- Q_FILE_COUNT_FLASH: M19 -/
theorem test_step_msgQFileCountFlash : told 80 0x7EFF0649000003FFB4EF State.reset = some ([.fileCount .flash 3], some (.feed true true)) := by decide

/-- Q_CURRENT_FILE_USB: M20 -/
theorem test_step_msgQCurrentFileUsb : told 80 0x7EFF064B00000CFFA9EF State.reset = some ([.currentFile .usb 12], some (.feed true true)) := by decide

/-- Q_CURRENT_FILE_SD: M21 -/
theorem test_step_msgQCurrentFileSd : told 80 0x7EFF064C000001FFB3EF State.reset = some ([.currentFile .sd 1], some (.feed true true)) := by decide

/-- Q_CURRENT_FILE_FLASH: M22 -/
theorem test_step_msgQCurrentFileFlash : told 80 0x7EFF064D000002FFB1EF State.reset = some ([.currentFile .flash 2], some (.feed true true)) := by decide

/-- Q_FOLDER_TRACK_COUNT: M23 -/
theorem test_step_msgQFolderTrackCount : told 80 0x7EFF064E000063FF4FEF State.reset = some ([.folderTrackCount 99], some (.feed true true)) := by decide

/-- Q_FOLDER_COUNT: M24 -/
theorem test_step_msgQFolderCount : told 80 0x7EFF064F000004FFADEF State.reset = some ([.folderCount 4], some (.feed true true)) := by decide

/-- M3 and M9: mask bits 3 to 15 are ignored; INIT_COMPLETE reads bit 4, not bit 3. -/
theorem test_masks :
    told 80 0x7EFF063A00FFF8FDCFEF State.reset = some ([], some (.feed true true)) ∧
    told 80 0x7EFF063F00FFFFFDC3EF State.reset =
      some ([.initComplete true true true true], some (.feed true true)) ∧
    told 64 0x7EFF063F000008EF State.reset =
      some ([.initComplete false false false false], some (.feed true true)) := by decide

/-! ## The port operations -/

/-- POR (R440). -/
theorem test_por : runAt 0 32 0x00000000 (active .selectingUsb) = some State.reset := by decide

/-- SEND of S7: any kind byte. -/
theorem test_send_transmits :
    (runAt 1000 32 0x20991234 State.reset).map (·.txLog) =
      some [0x7E, 0xFF, 0x06, 0x99, 0x00, 0x12, 0x34, 0xFF, 0x21, 0xEF] := by decide

/-- SEND of S5: the second request's deadline replaces the first. -/
theorem test_send_rearms :
    (runAt 1100 32 0x210E0000 { waiting with tmrDeadline := 1200 }).map (fun t => (t.tmrArmed, t.tmrDeadline)) =
      some (true, 1300) := by decide

/-- TICK of T3: expired at a difference of 2^31 - 1, missed at 2^31. -/
theorem test_tick_window :
    (runAt 0x800000C7 32 0x30000000 waiting).map (·.stepOut) = some [.tick true] ∧
    (runAt 0x800000C8 32 0x30000000 waiting).map (·.stepOut) = some [.tick false] ∧
    (runAt 0x000000C7 32 0x30000000 waiting).map (·.stepOut) = some [.tick false] := by decide

/-- R180, R181, R190 at CLK_W = 16: the deadline wraps mod 2^16, and its window ends 2^15 units after it. -/
theorem test_clock_width :
    (State.arm clock16 200 { State.reset with now := 0xFFFF }).tmrDeadline = 199 ∧
    (State.arm hardware 200 { State.reset with now := 0xFFFF }).tmrDeadline = 0x100C7 ∧
    (State.take clock16 0x10003 [] State.reset).now = 3 ∧
    ({ waiting with now := 0x80C7 } : State).expired clock16 = true ∧
    ({ waiting with now := 0x80C8 } : State).expired clock16 = false ∧
    ({ waiting with now := 0x80C8 } : State).expired hardware = true := by decide

/-- TICK of B4: bring-up ends before the sink is told of the timeout. -/
theorem test_tick_fails_reset :
    (runAt 200 32 0x30000000 (active .resettingHardware)).map (fun t => (t.fsmState, t.result, t.sinkLog)) =
      some (.none, .failed, [.bringupEnd .failed, .error .timedOut]) := by decide

/-- RESET of B25. -/
theorem test_reset_restarts :
    (runAt 1000 32 0x40000000
        { State.reset with result := .ready, selDevice := 1, fileCount := 42, folderCount := 4 }).map
      (fun t => (t.result, t.selDevice, t.fileCount, t.folderCount, t.tmrDeadline)) =
      some (.inProgress, 0, 0, 0, 11000) := by decide

/-- RESET keeps a partial frame (R450). -/
theorem test_reset_keeps_the_parser :
    (runAt 410 32 0x40000000 (parsing .at6)).map (fun t => (t.rxCur, t.rxBuf)) =
      some (.at6, (parsing .at6).rxBuf) := by decide

/-- FEED of F4, F5, F6: a mismatch that is START, and one that is not. -/
theorem test_feed_resync :
    (runAt 0 32 0x1000007E (parsing .at2)).map (·.rxCur) = some .at1 ∧
    (runAt 0 32 0x10000000 (parsing .at2)).map (·.rxCur) = some .at0 ∧
    (runAt 0 32 0x1000007E (parsing .at9)).map (·.rxCur) = some .at1 := by decide

/-- FEED of F3's last byte: INVALID, frame_ok 0. -/
theorem test_feed_invalid :
    told 32 0x100000EF { parsing .at9 with rxBuf := ⟨0x41, 0x00, 0x00, 0x00, 0xFF, 0xBE⟩ } =
      some ([.invalid 0x41 0x00 0x0000 0xFFBE], some (.feed true false)) := by decide

/-! ## Frames and the surface of the host -/

/-- ENCODE: X2, X5 and, with the alternative span, X9. -/
theorem test_encode_frame :
    encodeFrame hardware 0xFF 0xFFFF true = [0x7E, 0xFF, 0x06, 0xFF, 0x01, 0xFF, 0xFF, 0xFD, 0x02, 0xEF] ∧
    encodeFrame hardware 0x7E 0x7E7E false = [0x7E, 0xFF, 0x06, 0x7E, 0x00, 0x7E, 0x7E, 0xFE, 0x86, 0xEF] ∧
    encodeFrame { hardware with chkSpan := .headerAndPayload } 0x46 0x0000 false =
      [0x7E, 0xFF, 0x06, 0x46, 0x00, 0x00, 0x00, 0xFE, 0xB5, 0xEF] := by decide

/-- F10: a chk_hi of END completes a short frame; the rest is noise. -/
theorem test_early_end :
    (runAt 0 80 0x7EFF0641000000EFBFEF State.reset).map (fun t => (t.rxCur, t.sinkLog)) = some (.at0, [.ack]) := by decide

/-- F15 and M27: an unknown kind is received and emits nothing, although no row has it. -/
theorem test_unknown_kind :
    told 64 0x7EFF0699021234EF State.reset = some ([], some (.feed true true)) ∧
    told 80 0x7EFF0699001234FF21EF State.reset = some ([], some (.feed true true)) := by decide

/-- S2: a notification does not cancel the timer; S6: an unsolicited status reply does. -/
theorem test_reply_cancellation :
    (runAt 100 80 0x7EFF063D000003FFC0EF waiting).map (·.tmrArmed) = some true ∧
    (runAt 10 80 0x7EFF0642000201FFBBEF waiting).map (·.tmrArmed) = some false := by decide

/-- B10, B18, B22: the FSM's way through USB, one frame at a time. -/
theorem test_bringup_usb :
    (runAt 150 80 0x7EFF064700002AFF8FEF (active .checkingUsbFileCount)).map
      (fun t => (t.fsmState, t.fileCount, t.tmrDeadline)) = some (.selectingUsb, 42, 350) ∧
    (runAt 200 80 0x7EFF0641000000FFBFEF (active .selectingUsb)).map
      (fun t => (t.fsmState, t.selDevice, t.tmrDeadline)) = some (.checkingFolderCount, 1, 400) ∧
    (runAt 250 80 0x7EFF064F000004FFADEF (active .checkingFolderCount)).map
      (fun t => (t.fsmState, t.result, t.folderCount, t.sinkLog)) =
      some (.none, .ready, 4, [.bringupEnd .ready, .folderCount 4]) := by decide

/-- B11, B15, B19: a zero count, no source, and an error that a selecting state ignores. -/
theorem test_bringup_other_edges :
    (runAt 150 80 0x7EFF0647000000FFB9EF (active .checkingUsbFileCount)).map
      (fun t => (t.fsmState, t.fileCount)) = some (.checkingSdFileCount, 0) ∧
    (runAt 200 80 0x7EFF0648000000FFB8EF (active .checkingSdFileCount)).map
      (fun t => (t.fsmState, t.result, t.tmrArmed)) = some (.none, .noSource, false) ∧
    (runAt 200 80 0x7EFF0640000001FFBFEF (active .selectingUsb)).map
      (fun t => (t.fsmState, t.tmrArmed, t.tmrDeadline)) = some (.selectingUsb, true, 200) := by decide

/-- H1, H3, H8, H9, H11, H12, H15. -/
theorem test_host_calls :
    hostOp hardware (.setVolume (-5)) = some (.send true 0x06 0x0000) ∧
    hostOp hardware (.setVolume 31) = some (.send true 0x06 0x001E) ∧
    hostOp hardware (.playTrack 255 255) = some (.send true 0x0F 0xFFFF) ∧
    hostOp hardware (.playTrack 256 5) = some (.send true 0x0F 0x0005) ∧
    hostOp hardware (.playTrack 15 3000) = some (.send true 0x14 0xFBB8) ∧
    hostOp hardware (.playTrack 16 256) = none ∧
    hostOp hardware (.queryFolderTrackCount 3) = some (.send false 0x4E 0x0003) := by decide

/-- Lines of P1, P2 and P4 in the written form of R111, and F15's short frame with feedback 0x02 (log 16). -/
theorem test_assemble :
    assembleLine hardware "@200 CMD VOLUME, 0x001E  ; setVolume(999)".toList = some [⟨200, .op 0x2106001E⟩] ∧
    assembleLine hardware "@1000 QUERY Q_VOLUME".toList = some [⟨1000, .op 0x20430000⟩] ∧
    assembleLine hardware "@40 UPDATE 0x7E 0xFF".toList =
      some [⟨40, .op 0x1000007E⟩, ⟨40, .op 0x100000FF⟩, ⟨40, .op 0x30000000⟩] ∧
    (assembleLine hardware "@0 RXSHORT 0x99, 0x02, 0x1234".toList).map (·.map (·.input)) =
      some [.op 0x1000007E, .op 0x100000FF, .op 0x10000006, .op 0x10000099, .op 0x10000002, .op 0x10000012,
        .op 0x10000034, .op 0x100000EF] ∧
    assembleLine hardware "@0x100000000 TICK".toList = none ∧
    assembleLine hardware "POR".toList = some [⟨0, .op 0x00000000⟩] ∧
    assembleLine hardware "@10 JUMP 3".toList = none := by decide

/-! ## Witnesses: for each statement with hypotheses, a state and operands that meet them -/

/-- DecodeOfEncodeIsTheInstruction: both tails, and the edges of chk_hi round END. -/
theorem witness_DecodeOfEncode : clock16.Valid ∧ hardware.Valid ∧
    (Instr.msgVolume 0x01 0x000F (.full 0xFFEA)).wf = true ∧ (Instr.msgVolume 0x01 0x000F .short).wf = true ∧
    (Instr.msgVolume 0x01 0x000F (.full 0xEEFF)).wf = true ∧ (Instr.msgVolume 0x01 0x000F (.full 0xF000)).wf = true :=
  ⟨clock16_valid, hardware_valid, by decide⟩

theorem witness_EncodeOfDecode :
    decode hardware (.op 0x2106001E) = .ok (.send true 0x06 0x001E) ∧
    decode hardware (.rx [0x7E, 0xFF, 0x06, 0x41, 0x00, 0x00, 0x00, 0xEF]) = .ok (.msgAck 0 0 .short) := by decide

/-- One word for each row, at the edges of its operands, and reserved words beside them. -/
theorem witness_OperationWordRows :
    (0x10000000 &&& 0xFFFFFF00 : OpWord) = 0x10000000 ∧ (0x100000FF &&& 0xFFFFFF00 : OpWord) = 0x10000000 ∧
    (0x20000000 &&& 0xFE000000 : OpWord) = 0x20000000 ∧ (0x21FFFFFF &&& 0xFE000000 : OpWord) = 0x20000000 ∧
    (let w : OpWord := 0x22000000
     w ≠ 0x00000000 ∧ w &&& 0xFFFFFF00 ≠ 0x10000000 ∧ w &&& 0xFE000000 ≠ 0x20000000 ∧ w ≠ 0x30000000 ∧
       w ≠ 0x40000000) ∧
    (presentFirst (.op 0x22000000) State.reset).pending = ⟨0, .op 0x22000000⟩ :: [] := by decide

theorem witness_StepRunsTheDecodedInstruction :
    (State.reset.withFetchWord 32 0x30000000).pending = ⟨0, .op 0x30000000⟩ :: [] ∧
    decode hardware (.op 0x30000000) = .ok .tick ∧ decode clock16 (.op 0x30000000) = .ok .tick := by decide

theorem witness_StepWithNothingPresented : State.reset.pending = [] := by decide

theorem witness_StepReceivesAnyBurst :
    (presentFirst (.rx [0x00, 0x7E]) State.reset).pending = ⟨0, .rx [0x00, 0x7E]⟩ :: [] := by decide

theorem witness_MessageInstructionIsItsFeeds :
    msgFrame? (.msgAck 0 0 .short) = some ⟨.ack, 0, 0, .short⟩ := by decide

/-- PorLeavesTheResetValues: POR answers a next state. -/
theorem witness_Por : exec .por waiting = .next State.reset := rfl

/-- PorLeavesTheResetValues: a state for each code of the status outputs. -/
theorem witness_Status :
    (∀ f ∈ [FsmState.none, .resettingHardware, .gettingVersion, .checkingUsbFileCount, .checkingSdFileCount,
        .selectingUsb, .selectingSd, .checkingFolderCount], (active f).fsmState = f) ∧
    ∀ r ∈ [BringupResult.notStarted, .inProgress, .ready, .noSource, .failed],
      ({ State.reset with result := r } : State).result = r := by decide

/-- SendTransmitsAndArms: SEND answers a next state. -/
theorem witness_Send : (next? (exec (.send true 0x0D 0) waiting)).map (·.tmrArmed) = some true := by decide

/-- The longest duration the spec allows, at the first and last `now` of its window, and a disarmed timer. -/
theorem witness_ExpiryWindow :
    (2 ^ 31 - 1 : Nat) < 2 ^ (hardware.clkW - 1) ∧
    ((2 ^ 31 - 1 : Nat) : Int) ≤ (((2 ^ 31 - 1 : Nat) : Int) - (0 : Nat)) % 2 ^ hardware.clkW ∧
    (((0xFFFFFFFE : Nat) : Int) - (0 : Nat)) % 2 ^ hardware.clkW ≤
      (2 ^ 31 - 1 : Nat) + 2 ^ (hardware.clkW - 1) - 1 ∧
    (10000 : Nat) < 2 ^ (clock16.clkW - 1) ∧ State.reset.tmrArmed = false := by decide

/-- Disarmed; and armed at the two ends of the range where no expiry is seen. -/
theorem witness_TickWithoutExpiry :
    State.reset.tmrArmed = false ∧
    2 ^ 31 ≤ ((({ waiting with now := 199 } : State).now : Int) - waiting.tmrDeadline) % 2 ^ 32 ∧
    2 ^ 31 ≤ ((({ waiting with now := 0x800000C8 } : State).now : Int) - waiting.tmrDeadline) % 2 ^ 32 := by decide

/-- The first and the last `now` at which the expiry is seen, in steady state. -/
theorem witness_TickExpiryInSteadyState :
    waiting.fsmState = .none ∧ waiting.tmrArmed = true ∧
    tickInWindow hardware 200 { waiting with now := 200 } = true ∧
    tickInWindow hardware 0x800000C7 { waiting with now := 0x800000C7 } = true := by decide

/-- The same in every active state. -/
theorem witness_TickExpiryDuringBringup :
    ∀ f ∈ [FsmState.resettingHardware, .gettingVersion, .checkingUsbFileCount, .checkingSdFileCount, .selectingUsb,
        .selectingSd, .checkingFolderCount],
      (active f).tmrArmed = true ∧ tickInWindow hardware 200 { active f with now := 200 } = true ∧
      tickInWindow hardware 0x800000C7 { active f with now := 0x800000C7 } = true := by decide

theorem witness_DisarmAfterDispatch :
    disarmAfter.Valid ∧ disarmAfter.disarmPoint = .afterDispatch ∧
    ({ active .gettingVersion with now := 200 } : State).expired disarmAfter = true ∧
    ({ active .checkingUsbFileCount with now := 200 } : State).expired disarmAfter = true :=
  ⟨disarmAfter_valid, rfl, by decide, by decide⟩

/-- EncodedFrameLayoutAndChecksum and ChecksumHighByteIsNeverEnd: a configuration for each span. -/
theorem witness_ChkSpan :
    hardware.chkSpan = .payload ∧ ({ hardware with chkSpan := .headerAndPayload } : Config).chkSpan = .headerAndPayload :=
  ⟨rfl, rfl⟩

/-- FeedAtTemplatePositions and FeedAtStoredPositions: a state for each offset, and bytes beside END. -/
theorem witness_FeedPositions :
    (∀ cur ∈ [RxCursor.at0, .at1, .at2, .at3, .at4, .at5, .at6, .at7, .at8, .at9], (parsing cur).rxCur = cur) ∧
    (0xEE : Byte) ≠ 0xEF ∧ (0xF0 : Byte) ≠ 0xEF := by decide

/-- At offset 9, a checksum that fits, and one that is off by one. -/
theorem witness_FeedOfEnd :
    (parsing .at7).rxCur = .at7 ∧ (parsing .at9).rxCur = .at9 ∧
    ((0x41 : Byte).toNat + (0x00 : Byte).toNat + (0x00 : Byte).toNat + (0x00 : Byte).toNat +
      ((0xFF : Byte) ++ (0xBF : Byte)).toNat) % 2 ^ 16 = 0 ∧
    ((0x41 : Byte).toNat + (0x00 : Byte).toNat + (0x00 : Byte).toNat + (0x00 : Byte).toNat +
      ((0xFF : Byte) ++ (0xBE : Byte)).toNat) % 2 ^ 16 ≠ 0 := by decide

/-- Idle with a reply kind, idle with another kind, and active. -/
theorem witness_Dispatch :
    waiting.fsmState = .none ∧ isReplyKind hardware 0x41 = true ∧ isReplyKind hardware 0x3F = false ∧
    (active .gettingVersion).fsmState ≠ .none := by decide

/-- A valid configuration and a byte no kind has. -/
theorem witness_NotificationDecoder : hardware.Valid ∧ ∀ k : Kind, hardware.kind k ≠ 0x99 :=
  ⟨hardware_valid, by intro k; cases k <;> decide⟩

/-- EncodedFrameIsReceivedWhole, EarlyEndIsAShortFrameAndNoise: each offset at which the parser is open. -/
theorem witness_ParserOpen :
    parserOpen (parsing .at0) = true ∧ parserOpen (parsing .at1) = true ∧ parserOpen (parsing .at2) = true := by decide

/-- CorruptedFrameIsInvalid: the six corruptions of L1.4's ACK frame. -/
theorem witness_CorruptedFrame :
    parserOpen State.reset = true ∧
    hiByte (checksum hardware 0x41 0 0 0) = 0xFF ∧ loByte (checksum hardware 0x41 0 0 0) = 0xBF ∧
    (0x42 : Byte) ≠ 0x41 ∧ (0x01 : Byte) ≠ 0x00 ∧ (0xFE : Byte) ≠ 0xFF ∧ (0xFE : Byte) ≠ endByte ∧
    (0xBE : Byte) ≠ 0xBF := by decide

theorem witness_HeaderNoise :
    (parsing .at3).rxCur = .at3 ∧ loByte 0x0000 ≠ endByte ∧ loByte 0xEFF0 ≠ endByte := by decide

/-- CommandFramesHaveNoEffectBeyondTheParser: every command kind has an accepted full and an accepted short frame. -/
theorem witness_CommandFrames :
    parserOpen State.reset = true ∧
    ∀ k ∈ [Kind.next, .previous, .volume, .equalizer, .loop, .selectSource, .sleep, .wake, .reset, .play, .pause,
        .playFromFolder, .playFromBigFolder, .stop, .random, .dacEnable],
      tailAccepted hardware (hardware.kind k) 0 0 (.full (checksum hardware (hardware.kind k) 0 0 0)) = true ∧
      tailAccepted hardware (hardware.kind k) 0xFF 0xFFFF .short = true := by decide

/-- The other kinds, in steady state and, for MessagesDuringBringup, in an active state. -/
theorem witness_InboundFrames :
    parserOpen waiting = true ∧ waiting.fsmState = .none ∧
    parserOpen (active .selectingSd) = true ∧ (active .selectingSd).fsmState ≠ .none ∧
    msgFrame? (.msgAck 0 0 (.full 0xFFBF)) = some ⟨.ack, 0, 0, .full 0xFFBF⟩ ∧
    ∀ k ∈ [Kind.deviceInserted, .deviceRemoved, .finishedUsb, .finishedSd, .finishedFlash, .initComplete, .error, .ack,
        .qStatus, .qVolume, .qEqualizer, .qSequence, .qFirmwareVersion, .qFileCountUsb, .qFileCountSd, .qFileCountFlash,
        .qCurrentFileUsb, .qCurrentFileSd, .qCurrentFileFlash, .qFolderTrackCount, .qFolderCount],
      tailAccepted hardware (hardware.kind k) 0 7 (.full (checksum hardware (hardware.kind k) 0 0 7)) = true ∧
      tailAccepted hardware (hardware.kind k) 0 7 .short = true := by decide

/-- L1.4's ACK with chk_lo changed. -/
theorem witness_WrongChecksum :
    msgFrame? (.msgAck 0 0 (.full 0xFFBE)) = some ⟨.ack, 0, 0, .full 0xFFBE⟩ ∧ parserOpen State.reset = true ∧
    (0xFFBE : Half).extractLsb' 8 8 ≠ endByte ∧
    ((hardware.kind .ack).toNat + (0 : Byte).toNat + ((0 : Half).extractLsb' 8 8).toNat +
      ((0 : Half).extractLsb' 0 8).toNat + (0xFFBE : Half).toNat) % 2 ^ 16 ≠ 0 := by decide

/-- Reentry, leaving for NONE, and entering another state. -/
theorem witness_Goto :
    FsmState.selectingUsb = (active .selectingUsb).fsmState ∧ FsmState.none ≠ (active .selectingUsb).fsmState ∧
    FsmState.checkingFolderCount ≠ (active .selectingUsb).fsmState ∧
    FsmState.checkingFolderCount ≠ .none := by decide

theorem witness_Finish : (active .checkingFolderCount).fsmState ≠ .none := by decide

/-- The handler statements: a valid configuration, every active state, a count of 1 and of 65535, and kinds the state does
not expect. -/
theorem witness_Handlers :
    hardware.Valid ∧
    (∀ f ∈ [FsmState.resettingHardware, .gettingVersion, .checkingUsbFileCount, .checkingSdFileCount, .selectingUsb,
        .selectingSd, .checkingFolderCount],
      (active f).fsmState = f ∧ ({ active f with now := 200 } : State).expired hardware = true) ∧
    (1 : Half) ≠ 0 ∧ (0xFFFF : Half) ≠ 0 ∧
    ∀ k ∈ [Kind.initComplete, .error, .qFirmwareVersion, .qFileCountUsb, .qFileCountSd, .ack, .qFolderCount],
      (0x99 : Byte) ≠ hardware.kind k :=
  ⟨hardware_valid, by decide, by decide, by decide, by decide⟩

/-- An edge by a FEED that completes a frame, and one by a TICK. -/
theorem witness_TransitionGraph :
    msgFrame? (.feed 0xEF) = none ∧ msgFrame? .tick = none ∧
    (next? (exec (.feed 0xEF) { active .selectingUsb with rxCur := .at9, rxBuf := (parsing .at9).rxBuf })).map
      (·.fsmState) = some .checkingFolderCount ∧
    (next? (exec .tick { active .gettingVersion with now := 200 })).map (·.fsmState) =
      some .checkingUsbFileCount := by decide

/-- Both clauses of OnlyAnAckLeavesASelectingState: the ACK in state 5, the folder count in state 7. -/
theorem witness_OnlyAnAck :
    (next? (exec (.feed 0xEF) { active .selectingUsb with rxCur := .at7, rxBuf := (parsing .at7).rxBuf })).map
      (·.fsmState) = some .checkingFolderCount ∧
    (next? (exec (.feed 0xEF)
        { active .checkingFolderCount with rxCur := .at7, rxBuf := ⟨0x4F, 0, 0, 4, 0, 0⟩ })).map (·.fsmState) =
      some .none := by decide

/-- B26, at the first and the last `now` of the window. -/
theorem witness_SendDuringReset :
    (active .resettingHardware).fsmState = .resettingHardware ∧
    (hardware.tDefault : Int) ≤ (((200 : Nat) : Int) - (0 : Nat)) % 2 ^ 32 ∧
    (((0x800000C7 : Nat) : Int) - (0 : Nat)) % 2 ^ 32 ≤ hardware.tDefault + 2 ^ 31 - 1 ∧
    ((next? (exec (.send false 0x43 0) (active .resettingHardware))).bind fun u =>
      next? (exec .tick { u with now := 200 })).map (·.result) = some .failed := by decide

/-- A version reply at the very time its deadline is due. -/
theorem witness_ReplyBeforeTick :
    parserOpen { active .gettingVersion with now := 200 } = true ∧
    tailAccepted hardware (hardware.kind .qFirmwareVersion) 0 8 (.full 0xFFB2) = true ∧
    ((next? (exec (.msgQFirmwareVersion 0 8 (.full 0xFFB2)) { active .gettingVersion with now := 200 })).bind fun u =>
      next? (exec .tick u)).map (·.fsmState) = some .checkingUsbFileCount := by decide

/-- A state with a source on record, and a step from it. -/
def ready : State :=
  { State.reset with
    result := .ready, selDevice := 1, fileCount := 42, folderCount := 4, sinkLog := [.bringupEnd .ready, .folderCount 4] }

theorem witness_BringupConsistent :
    BringupConsistent hardware ready ∧ BringupConsistent hardware (active .gettingVersion) ∧
    TimesInRange hardware ready ∧ TimesInRange hardware { ready with now := 0xFFFFFFFF, tmrDeadline := 0xFFFFFFFF } ∧
    (next? (step (ready.withFetchWord 32 0x40000000))).isSome = true := by
  refine ⟨?_, ?_, ⟨by decide, by decide⟩, ⟨by decide, by decide⟩, by decide⟩
  · simp [BringupConsistent, fileCountOnRecord, deviceOnRecord, ready, State.reset, hardware, deviceCode]
  · simp [BringupConsistent, fileCountOnRecord, deviceOnRecord, active, State.reset]

theorem witness_TxFramed :
    TxFramed hardware { waiting with txLog := framesOf hardware [⟨0x43, 0, false⟩] } ∧
    (next? (step (waiting.withFetchWord 32 0x30000000))).isSome = true :=
  ⟨⟨[⟨0x43, 0, false⟩], rfl, by simp⟩, by decide⟩

theorem witness_ResultReported :
    ResultReported ready ∧ (next? (step (ready.withFetchWord 32 0x30000000))).isSome = true := by
  refine ⟨?_, by decide⟩
  intro r
  cases r <;> decide

theorem witness_LogsOnlyGrow :
    Instr.reset ≠ .por ∧ (next? (exec .reset ready)).map (·.sinkLog) = some ready.sinkLog := by decide

/-- Two states that differ in a stale cell and in a disarmed deadline; in the second pair, four cells are written. -/
theorem witness_ObsEq :
    ObsEq State.reset { State.reset with rxBuf := ⟨1, 2, 3, 4, 5, 6⟩, tmrDeadline := 9 } ∧
    ObsEq (parsing .at7) { parsing .at7 with rxBuf := ⟨0x41, 0, 0, 0, 5, 6⟩ } := by
  constructor <;> simp [ObsEq, cellsAgree, cursorCode, State.reset, parsing]

/-- TrackAddressingPicksOneEncoding and VolumeIsClampedBeforeItIsSent: each clause at its edges. -/
theorem witness_HostRanges :
    (255 : Nat) < 256 ∧ (256 : Nat) ≤ 256 ∧ (15 : Nat) < 16 ∧ (3000 : Nat) ≤ 3000 ∧ (16 : Nat) ≤ 16 ∧
    (3000 : Nat) < 3001 ∧ (-1 : Int) < 0 ∧ (30 : Int) < 31 ∧ (0 : Int) ≤ 30 := by decide

theorem witness_HostCalls :
    hostOp hardware .reset = some .reset ∧ hostOp hardware .play = some (.send true 0x0D 0) ∧
    hostOp hardware .queryStatus = some (.send false 0x42 0) := by decide

end Sys2Proof.Tests
end

section
/-! The input ports under every instruction, and the timer's level test in the integer arithmetic of R10. -/

namespace Sys2Proof.Machine

/-! The port fields `now` and `pending` belong to the host (R48): whatever the block performs, it leaves them. -/

section
variable (c : Config) (s : State)

@[simp] theorem complete_ports (fr : FrameRecord) :
    (complete c fr s).now = s.now ∧ (complete c fr s).pending = s.pending := by
  unfold complete
  split <;> simp

@[simp] theorem feedByte_ports (b : Byte) :
    (feedByte c b s).now = s.now ∧ (feedByte c b s).pending = s.pending := by
  rcases feedByte_cases c s b with ⟨cur, h⟩ | h | ⟨_, _, h⟩ | ⟨_, _, h⟩ <;> simp [h, feedStored]

@[simp] theorem feedBytes_ports (bs : List Byte) :
    (feedBytes c bs s).now = s.now ∧ (feedBytes c bs s).pending = s.pending := by
  induction bs generalizing s with
  | nil => exact ⟨rfl, rfl⟩
  | cons b bs ih => simp [feedBytes, ih]

@[simp] theorem receiveFrame_ports (k : Kind) (fb : Byte) (param : Half) (tail : FrameTail) :
    (receiveFrame c k fb param tail s).now = s.now ∧ (receiveFrame c k fb param tail s).pending = s.pending :=
  feedBytes_ports c s.clearOut _

/-- An expiry dispatches at the same `now`, at either DISARM_POINT (R185, R186). -/
@[simp] theorem tickTimer_ports : (tickTimer c s).now = s.now ∧ (tickTimer c s).pending = s.pending := by
  unfold tickTimer
  split
  · cases c.disarmPoint <;> simp
  · simp

@[simp] theorem restartBringup_ports :
    (restartBringup c s).now = s.now ∧ (restartBringup c s).pending = s.pending := by
  simp [restartBringup_eq]

/-- A message is its frame arriving; each of the five port operations has its own rule above. -/
theorem perform_ports (i : Instr) : (perform c i s).now = s.now ∧ (perform c i s).pending = s.pending := by
  cases hm : msgFrame? i with
  | some f =>
    rw [perform_message c hm]
    exact receiveFrame_ports c s _ _ _ _
  | none =>
    rcases portOp_of_not_message i hm with rfl | ⟨b, rfl⟩ | ⟨fb, k, p, rfl⟩ | rfl | rfl <;> simp [perform]

/-- `signed_CLK_W` with its comparison and its subtraction in the integers (R10). -/
theorem signedClock_eq_int (x : Nat) :
    signedClock c x = if (x : Int) < 2 ^ (c.clkW - 1) then (x : Int) else x - 2 ^ c.clkW := by
  have hlt : x < 2 ^ (c.clkW - 1) ↔ (x : Int) < 2 ^ (c.clkW - 1) := by exact_mod_cast Iff.rfl
  simp [signedClock, hlt]

end

/-- Settles O9: `exec` is the total `perform` at this hardware, which leaves the input ports. -/
theorem everyInstructionCompletes : Obligations.EveryInstructionCompletes :=
  ⟨fun i s => ⟨perform hardware i s, exec_eq_perform i s, perform_ports hardware s i⟩, exec_eq_perform,
    fun c i s => perform_ports c s i, step_eq_stepWith⟩

/-- Settles O14: ARM and CANCEL are the record updates the statement writes; the level test is `signed_CLK_W` of the
elapsed time, which is the integer difference mod 2^CLK_W (`elapsed_emod`). -/
theorem armAndCancelAndExpired : Obligations.ArmAndCancelAndExpired := by
  intro c s d
  refine ⟨rfl, rfl, rfl, rfl, ?_⟩
  rw [State.expired, Bool.and_eq_true, decide_eq_true_eq, signedClock_eq_int, elapsed_emod]

end Sys2Proof.Machine
end

section
/-! What one effect of an operation can do to the transmit side and to the report of bring-up, and the one induction that
carries a property of the registers and logs through every instruction and every step. -/

namespace Sys2Proof.Machine

section
variable (c : Config) (s : State)

@[simp] theorem finish_fsmState (r : EndResult) : (finish c r s).fsmState = .none := by
  simp [finish]

@[simp] theorem finish_result (r : EndResult) : (finish c r s).result = endResultValue r := by
  simp [finish]

@[simp] theorem finish_sinkLog (r : EndResult) : (finish c r s).sinkLog = s.sinkLog ++ [.bringupEnd r] := by
  simp [finish]

@[simp] theorem finish_selDevice (r : EndResult) : (finish c r s).selDevice = s.selDevice := by
  simp [finish]

@[simp] theorem finish_fileCount (r : EndResult) : (finish c r s).fileCount = s.fileCount := by
  simp [finish]

@[simp] theorem finish_folderCount (r : EndResult) : (finish c r s).folderCount = s.folderCount := by
  simp [finish]

end

/-! ## The transmit side -/

/-- What an effect can do to TX_LOG and the timer: nothing but disarm it, or one TX_FRAME (R182, R184). -/
def Transmits (c : Config) (s t : State) : Prop :=
  (t.txLog = s.txLog ∧ t.tmrDeadline = s.tmrDeadline ∧ (t.tmrArmed = true → s.tmrArmed = true)) ∨
  ∃ (k : Byte) (p : Half) (fb : Bool) (d : Nat),
    t.txLog = s.txLog ++ encodeFrame c k p fb ∧ t.tmrArmed = true ∧ t.tmrDeadline = timeAfter c s.now d

section
variable (c : Config) (s : State)

theorem transmits_refl : Transmits c s s := .inl ⟨rfl, rfl, id⟩

theorem transmits_cancel : Transmits c s s.cancel := .inl ⟨rfl, rfl, fun h => nomatch h⟩

theorem transmits_txFrame (k : Byte) (p : Half) (fb : Bool) (d : Nat) : Transmits c s (txFrame c k p fb d s) :=
  .inr ⟨k, p, fb, d, rfl, rfl, rfl⟩

/-- A change of state transmits the entry frame of the new state, if it has one (R251). -/
theorem transmits_goto (x : FsmState) : Transmits c s (goto c x s) := by
  unfold goto
  split_ifs
  · exact transmits_refl c s
  · exact transmits_cancel c s
  · rw [enterState_eq]
    split
    · exact transmits_txFrame c s _ _ _ _
    · exact transmits_cancel c s

theorem transmits_finish (r : EndResult) : Transmits c s (finish c r s) :=
  transmits_goto c ((s.setResult _).sinkEmit _) .none

/-- An event that is not ENTER is ignored, or handled by at most one counter write and then a goto or a finish. -/
theorem fsmStep_goto_or_finish (ev : FsmEvent) (hev : ev ≠ .enter) :
    fsmStep c ev s = s ∨
    ∃ sel files folders : Half,
      let u : State := { s with selDevice := sel, fileCount := files, folderCount := folders }
      (∃ x, fsmStep c ev s = goto c x u) ∨ ∃ r, fsmStep c ev s = finish c r u := by
  rcases fsmStep_cases c s ev hev with h | ⟨_, h⟩ | ⟨_, h⟩ | ⟨_, h⟩ | ⟨_, h⟩ | ⟨_, _, h⟩ | ⟨_, h⟩ | ⟨_, _, h⟩ |
    ⟨_, h⟩ | ⟨_, h⟩ | ⟨_, h⟩
  · exact .inl h
  · exact .inr ⟨s.selDevice, s.fileCount, s.folderCount, .inl ⟨_, h⟩⟩
  · exact .inr ⟨s.selDevice, s.fileCount, s.folderCount, .inr ⟨_, h⟩⟩
  · exact .inr ⟨s.selDevice, s.fileCount, s.folderCount, .inl ⟨_, h⟩⟩
  · exact .inr ⟨s.selDevice, s.fileCount, s.folderCount, .inl ⟨_, h⟩⟩
  · exact .inr ⟨s.selDevice, eventParam ev, s.folderCount, .inl ⟨_, h⟩⟩
  · exact .inr ⟨s.selDevice, s.fileCount, s.folderCount, .inr ⟨_, h⟩⟩
  · exact .inr ⟨s.selDevice, eventParam ev, s.folderCount, .inl ⟨_, h⟩⟩
  · exact .inr ⟨c.device .usb, s.fileCount, s.folderCount, .inl ⟨_, h⟩⟩
  · exact .inr ⟨c.device .sd, s.fileCount, s.folderCount, .inl ⟨_, h⟩⟩
  · exact .inr ⟨s.selDevice, s.fileCount, eventParam ev, .inr ⟨_, h⟩⟩

/-- The counters a handler writes are no part of the transmit side. -/
theorem transmits_fsmStep (ev : FsmEvent) (hev : ev ≠ .enter) : Transmits c s (fsmStep c ev s) := by
  rcases fsmStep_goto_or_finish c s ev hev with h | ⟨sel, files, folders, ⟨x, h⟩ | ⟨r, h⟩⟩ <;> rw [h]
  · exact transmits_refl c s
  · exact transmits_goto c { s with selDevice := sel, fileCount := files, folderCount := folders } x
  · exact transmits_finish c { s with selDevice := sel, fileCount := files, folderCount := folders } r

/-- An expiry disarms before it dispatches (R185): what the FSM then transmits is all there is. -/
theorem transmits_timeout : Transmits c s (fsmStep c .timeout s.cancel) := by
  rcases transmits_fsmStep c s.cancel .timeout (by simp) with ⟨htx, hdl, harm⟩ | hsent
  · exact .inl ⟨htx, hdl, fun h => nomatch harm h⟩
  · exact .inr hsent

theorem transmits_restartBringup : Transmits c s (restartBringup c s) := by
  rw [restartBringup_eq]
  exact .inr ⟨_, _, _, _, rfl, rfl, rfl⟩

end

/-! ## The report of bring-up -/

/-- What an effect can do to RESULT and SINK_LOG together: nothing, or report an end of bring-up (R253). -/
def Reports (s t : State) : Prop :=
  (t.result = s.result ∧ t.sinkLog = s.sinkLog) ∨
  ∃ r : EndResult, t.result = endResultValue r ∧ t.sinkLog = s.sinkLog ++ [.bringupEnd r]

theorem reports_fsmStep (c : Config) (s : State) (ev : FsmEvent) (hev : ev ≠ .enter) :
    Reports s (fsmStep c ev s) := by
  rcases fsmStep_goto_or_finish c s ev hev with h | ⟨sel, files, folders, ⟨x, h⟩ | ⟨r, h⟩⟩ <;> rw [h]
  · exact .inl ⟨rfl, rfl⟩
  · exact .inl ⟨goto_result .., goto_sinkLog ..⟩
  · exact .inr ⟨r, finish_result .., finish_sinkLog ..⟩

/-- Only finish emits BRINGUP_END: the decoder has no kind for it (R215, R253). -/
theorem bringupEnd_not_mem_wireNotifications (c : Config) (kind : Byte) (param : Half) (r : EndResult) :
    .bringupEnd r ∉ wireNotifications c kind param := by
  unfold wireNotifications
  split
  · rename_i k _
    cases k <;> simp [kindNotifications]
  · exact List.not_mem_nil

/-! ## Properties that every effect keeps -/

/-- The effects an operation is made of keep `P`: writes to the parser and the step outputs, emissions other than
BRINGUP_END, reply cancellation, the FSM on a received frame and on an expiry, TX_FRAME, and RESET. -/
structure KeptByEffects (c : Config) (P : State → Prop) : Prop where
  scratch : ∀ (s : State) (cur : RxCursor) (buf : RxBuf) (out : List StepOutput), P s →
    P { s with rxCur := cur, rxBuf := buf, stepOut := out }
  sink : ∀ (s : State) (ns : List Notification), (∀ r, .bringupEnd r ∉ ns) → P s → P (s.sinkEmitAll ns)
  cancel : ∀ s : State, s.fsmState = .none → P s → P s.cancel
  wire : ∀ (s : State) (kind fb : Byte) (param : Half), s.fsmState ≠ .none → P s →
    P (fsmStep c (.wire kind fb param) s)
  timeout : ∀ s : State, s.fsmState ≠ .none → P s → P (fsmStep c .timeout s.cancel)
  transmit : ∀ (s : State) (k : Byte) (p : Half) (fb : Bool) (d : Nat), P s → P (txFrame c k p fb d s)
  restart : ∀ s : State, P s → P (restartBringup c s)

namespace KeptByEffects

section
variable {c : Config} {P : State → Prop} {s : State}

theorem pushOut (h : KeptByEffects c P) (o : StepOutput) (hs : P s) : P (s.pushOut o) :=
  h.scratch s s.rxCur s.rxBuf _ hs

theorem setRxCur (h : KeptByEffects c P) (cur : RxCursor) (hs : P s) : P (s.setRxCur cur) :=
  h.scratch s cur s.rxBuf s.stepOut hs

theorem storeRx (h : KeptByEffects c P) (b : Byte) (hs : P s) : P (s.storeRx b) :=
  h.scratch s s.rxCur _ s.stepOut hs

theorem clearOut (h : KeptByEffects c P) (hs : P s) : P s.clearOut :=
  h.scratch s s.rxCur s.rxBuf [] hs

theorem dispatchFrame (h : KeptByEffects c P) (fr : FrameRecord) (hs : P s) : P (dispatchFrame c fr s) := by
  unfold Machine.dispatchFrame notifyWire
  refine h.sink _ _ (bringupEnd_not_mem_wireNotifications c fr.kind fr.param) ?_
  by_cases hidle : s.fsmState = .none
  · simp only [hidle, decide_true, if_true, Bool.true_and]
    split_ifs
    · exact h.cancel s hidle hs
    · exact hs
  · simpa [hidle] using h.wire s _ _ _ hidle hs

theorem dispatchInvalid (h : KeptByEffects c P) (fr : FrameRecord) (hs : P s) : P (dispatchInvalid fr s) := by
  unfold Machine.dispatchInvalid
  split
  · exact h.sink s [_] (by simp) hs
  · exact hs

theorem complete (h : KeptByEffects c P) (fr : FrameRecord) (hs : P s) : P (complete c fr s) := by
  unfold Machine.complete
  split
  · exact h.pushOut _ (h.dispatchFrame fr hs)
  · exact h.pushOut _ (h.dispatchInvalid fr hs)

theorem feedByte (h : KeptByEffects c P) (b : Byte) (hs : P s) : P (feedByte c b s) := by
  rcases feedByte_cases c s b with ⟨cur, e⟩ | e | ⟨_, _, e⟩ | ⟨_, _, e⟩ <;> rw [e]
  · exact h.pushOut _ (h.setRxCur cur hs)
  · exact h.pushOut _ (h.setRxCur _ (h.storeRx b hs))
  · exact h.complete _ (h.setRxCur .at0 hs)
  · exact h.complete _ (h.setRxCur .at0 hs)

theorem feedBytes (h : KeptByEffects c P) (bs : List Byte) (hs : P s) : P (feedBytes c bs s) := by
  induction bs generalizing s with
  | nil => exact hs
  | cons b bs ih => exact ih (h.feedByte b hs)

/-- An expiry, with the DISARM_POINT this hardware has (R185, R186). -/
theorem tickTimer (h : KeptByEffects c P) (hd : c.disarmPoint = .beforeDispatch) (hs : P s) : P (tickTimer c s) := by
  unfold Machine.tickTimer dispatchTimeout
  simp only [hd]
  split
  · refine h.pushOut _ (h.sink _ [_] (by simp) ?_)
    split_ifs with hidle
    · exact h.cancel s hidle hs
    · exact h.timeout s hidle hs
  · exact h.pushOut _ hs

/-- Every instruction but POR is made of the effects. -/
theorem perform (h : KeptByEffects c P) (hd : c.disarmPoint = .beforeDispatch) {i : Instr} (hi : i ≠ .por)
    (hs : P s) : P (perform c i s) := by
  cases hm : msgFrame? i with
  | some f =>
    rw [perform_message c hm]
    exact h.feedBytes _ (h.clearOut hs)
  | none =>
    rcases portOp_of_not_message i hm with rfl | ⟨b, rfl⟩ | ⟨_, _, _, rfl⟩ | rfl | rfl
    · exact absurd rfl hi
    · exact h.feedByte b (h.clearOut hs)
    · exact h.transmit _ _ _ _ _ (h.clearOut hs)
    · exact h.tickTimer hd (h.clearOut hs)
    · exact h.restart _ (h.clearOut hs)

/-- A property the effects keep, that POR establishes and that taking an input keeps, is an invariant of this
hardware. -/
theorem step (h : KeptByEffects hardware P) (htake : ∀ s now rest, P s → P (s.take hardware now rest))
    (hpor : ∀ s : State, P s → P s.powerOn) {t : State} (hs : P s) (he : step s = .next t) : P t :=
  step_keeps P (fun b _ => h.feedByte b) (fun _ => h.clearOut) htake (fun _ hs => hpor _ (h.clearOut hs))
    (fun k p fb s => h.transmit s k p fb _) (fun _ => h.tickTimer rfl) h.restart s t hs he

end

/-- A property of the transmit side and `now` alone. -/
theorem of_transmits {c : Config} {P : State → Prop}
    (htransmits : ∀ s t : State, Transmits c s t → t.now = s.now → P s → P t) : KeptByEffects c P where
  scratch s _ _ _ := htransmits s _ (.inl ⟨rfl, rfl, id⟩) rfl
  sink s _ _ := htransmits s _ (.inl ⟨rfl, rfl, id⟩) rfl
  cancel s _ := htransmits s _ (transmits_cancel c s) rfl
  wire s _ _ _ _ := htransmits s _ (transmits_fsmStep c s _ (by simp)) (by simp)
  timeout s _ := htransmits s _ (transmits_timeout c s) (by simp)
  transmit s _ _ _ _ := htransmits s _ (transmits_txFrame c s _ _ _ _) rfl
  restart s := htransmits s _ (transmits_restartBringup c s) (by simp)

end KeptByEffects

end Sys2Proof.Machine
end

section
/-! The transmit log, the report of bring-up and the growth of the logs. -/

namespace Sys2Proof.Machine

/-! ## TX_LOG -/

theorem framesOf_append (c : Config) (rs : List Request) (r : Request) :
    framesOf c (rs ++ [r]) = framesOf c rs ++ encodeFrame c r.kind r.param r.fb := by
  simp [framesOf]

/-- Disarming leaves the frames as they are; a TX_FRAME is one more request. -/
theorem TxFramed.of_transmits {c : Config} {s t : State} (hs : TxFramed c s) (ht : Transmits c s t) :
    TxFramed c t := by
  obtain ⟨rs, hlog, hne⟩ := hs
  rcases ht with ⟨htx, _, harm⟩ | ⟨k, p, fb, d, htx, _, _⟩
  · exact ⟨rs, htx.trans hlog, fun h => hne (harm h)⟩
  · exact ⟨rs ++ [⟨k, p, fb⟩], by rw [htx, hlog, framesOf_append], by simp⟩

theorem txFramed_keptByEffects (c : Config) : KeptByEffects c (TxFramed c) :=
  .of_transmits fun _ _ ht _ hs => hs.of_transmits ht

theorem txFramed_powerOn (c : Config) (s : State) : TxFramed c s.powerOn := ⟨[], rfl, by simp⟩

/-- Settles O51: every effect leaves the transmit side, disarms, or appends one frame and arms. -/
theorem transmitLogStaysFramed : Obligations.TransmitLogStaysFramed := fun _ _ hs he =>
  (txFramed_keptByEffects hardware).step (fun _ _ _ h => h) (fun s _ => txFramed_powerOn hardware s) hs he

/-! ## RESULT and the last BRINGUP_END -/

theorem lastEnd_append_bringupEnd (log : List Notification) (r : EndResult) :
    lastEnd (log ++ [.bringupEnd r]) = some r := by
  simp [lastEnd]

/-- Other notifications do not change which BRINGUP_END was the last. -/
theorem lastEnd_append_of_no_end (log ns : List Notification) (h : ∀ r, .bringupEnd r ∉ ns) :
    lastEnd (log ++ ns) = lastEnd log := by
  induction ns using List.reverseRecOn with
  | nil => simp
  | append_singleton ns n ih =>
    have hns : lastEnd (log ++ ns) = lastEnd log := ih fun r hr => h r (by simp [hr])
    rw [← List.append_assoc, ← hns]
    cases n with
    | bringupEnd r => exact absurd (by simp) (h r)
    | _ => simp [lastEnd]

theorem endResultValue_injective {r r' : EndResult} (h : endResultValue r = endResultValue r') : r = r' := by
  cases r <;> cases r' <;> simp [endResultValue] at h ⊢

theorem endResultValue_ne_inProgress (r : EndResult) : endResultValue r ≠ .inProgress := by
  cases r <;> decide

theorem endResultValue_ne_notStarted (r : EndResult) : endResultValue r ≠ .notStarted := by
  cases r <;> decide

theorem ResultReported.of_reports {s t : State} (hs : ResultReported s) (ht : Reports s t) : ResultReported t := by
  rcases ht with ⟨hres, hsink⟩ | ⟨r, hres, hsink⟩ <;> intro r' hr' <;> rw [hres] at hr' <;> rw [hsink]
  · exact hs r' hr'
  · rw [lastEnd_append_bringupEnd, endResultValue_injective hr']

theorem resultReported_keptByEffects (c : Config) : KeptByEffects c ResultReported where
  scratch _ _ _ _ hs := hs
  sink s ns hns hs := fun r hr => (lastEnd_append_of_no_end s.sinkLog ns hns).trans (hs r hr)
  cancel _ _ hs := hs
  wire s _ _ _ _ hs := hs.of_reports (reports_fsmStep c s _ (by simp))
  timeout s _ hs := ResultReported.of_reports (s := s.cancel) hs (reports_fsmStep c s.cancel _ (by simp))
  transmit _ _ _ _ _ hs := hs
  restart s _ := by
    rw [restartBringup_eq]
    exact fun r hr => absurd hr.symm (endResultValue_ne_inProgress r)

/-- Settles O53: finish writes RESULT and BRINGUP_END together; RESET and POR leave a RESULT that reports nothing. -/
theorem resultStaysWhatWasReported : Obligations.ResultStaysWhatWasReported := fun _ _ hs he =>
  (resultReported_keptByEffects hardware).step (fun _ _ _ h => h)
    (fun _ _ r hr => absurd hr.symm (endResultValue_ne_notStarted r)) hs he

/-! ## Growth of the logs -/

/-- TX_LOG is `log` with something appended. -/
def TxExtends (log : List Byte) (s : State) : Prop := ∃ u, s.txLog = log ++ u

/-- SINK_LOG is `log` with something appended. -/
def SinkExtends (log : List Notification) (s : State) : Prop := ∃ v, s.sinkLog = log ++ v

theorem txExtends_keptByEffects (c : Config) (log : List Byte) : KeptByEffects c (TxExtends log) :=
  .of_transmits fun _ _ ht _ ⟨u, hu⟩ => by
    rcases ht with ⟨htx, _, _⟩ | ⟨k, p, fb, d, htx, _, _⟩
    · exact ⟨u, htx.trans hu⟩
    · exact ⟨u ++ encodeFrame c k p fb, by rw [htx, hu, List.append_assoc]⟩

theorem SinkExtends.append {log ns : List Notification} {s t : State} (hs : SinkExtends log s)
    (ht : t.sinkLog = s.sinkLog ++ ns) : SinkExtends log t := by
  obtain ⟨v, hv⟩ := hs
  exact ⟨v ++ ns, by rw [ht, hv, List.append_assoc]⟩

theorem SinkExtends.of_reports {log : List Notification} {s t : State} (hs : SinkExtends log s) (ht : Reports s t) :
    SinkExtends log t := by
  rcases ht with ⟨_, hsink⟩ | ⟨r, _, hsink⟩
  · exact hs.append (ns := []) (by simpa using hsink)
  · exact hs.append hsink

theorem sinkExtends_keptByEffects (c : Config) (log : List Notification) : KeptByEffects c (SinkExtends log) where
  scratch _ _ _ _ hs := hs
  sink _ _ _ hs := hs.append rfl
  cancel _ _ hs := hs
  wire s _ _ _ _ hs := hs.of_reports (reports_fsmStep c s _ (by simp))
  timeout s _ hs := SinkExtends.of_reports (s := s.cancel) hs (reports_fsmStep c s.cancel _ (by simp))
  transmit _ _ _ _ _ hs := hs
  restart s hs := by
    rw [restartBringup_eq]
    exact hs

/-- Settles O55: no effect but POR's does anything to a log but append to it. -/
theorem logsOnlyGrow : Obligations.LogsOnlyGrow := by
  intro i s t hi he
  rw [exec_eq_perform] at he
  cases he
  exact ⟨(txExtends_keptByEffects hardware s.txLog).perform rfl hi ⟨[], by simp⟩,
    (sinkExtends_keptByEffects hardware s.sinkLog).perform rfl hi ⟨[], by simp⟩⟩

end Sys2Proof.Machine
end

section
/-! The bring-up registers by FSM state, and the times. -/

namespace Sys2Proof.Machine

/-! ## The bring-up registers -/

/-- No source has been found: the three source registers hold 0 (R40 to R42). -/
def NothingOnRecord (s : State) : Prop := s.selDevice = 0 ∧ s.fileCount = 0 ∧ s.folderCount = 0

/-- A source with files has been selected and acknowledged (R40, R41). -/
def SourceOnRecord (c : Config) (s : State) : Prop :=
  (s.selDevice = c.device .usb ∨ s.selDevice = c.device .sd) ∧ s.fileCount ≠ 0

/-- What the registers hold in each FSM state: the clauses of `BringupConsistent` but the one about the timer, read as
a table (`bringupConsistent_iff`). -/
def RegistersFit (c : Config) (s : State) : Prop :=
  match s.fsmState with
  | .none =>
    s.result = .ready ∧ SourceOnRecord c s ∨
      s.result ≠ .ready ∧ s.result ≠ .inProgress ∧ NothingOnRecord s
  | .resettingHardware | .gettingVersion | .checkingUsbFileCount | .checkingSdFileCount =>
    s.result = .inProgress ∧ NothingOnRecord s
  | .selectingUsb | .selectingSd =>
    s.result = .inProgress ∧ s.selDevice = 0 ∧ s.fileCount ≠ 0 ∧ s.folderCount = 0
  | .checkingFolderCount => s.result = .inProgress ∧ SourceOnRecord c s ∧ s.folderCount = 0

/-- States 1 to 4, which only a reply or an expiry leaves (R264). -/
def probing (x : FsmState) : Prop :=
  x = .resettingHardware ∨ x = .gettingVersion ∨ x = .checkingUsbFileCount ∨ x = .checkingSdFileCount

theorem bringupConsistent_iff (c : Config) (s : State) :
    BringupConsistent c s ↔ (probing s.fsmState → s.tmrArmed = true) ∧ RegistersFit c s := by
  unfold BringupConsistent RegistersFit probing fileCountOnRecord deviceOnRecord SourceOnRecord NothingOnRecord
  cases hf : s.fsmState <;> cases hr : s.result <;> simp
  all_goals tauto

section
variable {c : Config} {s : State}

/-- The table does not read the timer, so it holds between the disarming and the dispatch of an expiry too. -/
theorem RegistersFit.cancel (h : RegistersFit c s) : RegistersFit c s.cancel := h

/-- A probe that finds no source leads to another probe with nothing on record (R254 to R256). -/
theorem RegistersFit.goto_probe (hres : s.result = .inProgress) (hrec : NothingOnRecord s) {x : FsmState}
    (hx : probing x) : RegistersFit c (goto c x s) := by
  rcases hx with rfl | rfl | rfl | rfl <;> simpa [RegistersFit, NothingOnRecord, hres] using hrec

/-- A nonzero file count is recorded on the way into a selecting state (R256, R257). -/
theorem RegistersFit.goto_selecting (hres : s.result = .inProgress) (hrec : NothingOnRecord s) {n : Half} (hn : n ≠ 0)
    {x : FsmState} (hx : x = .selectingUsb ∨ x = .selectingSd) :
    RegistersFit c (goto c x (s.setFileCount n)) := by
  obtain ⟨hsel, -, hfolder⟩ := hrec
  rcases hx with rfl | rfl <;> simpa [RegistersFit, hres, hsel, hfolder] using hn

/-- The acknowledged device is recorded on the way into the folder probe (R258, R259). -/
theorem RegistersFit.goto_folder (hres : s.result = .inProgress) (hfile : s.fileCount ≠ 0) (hfolder : s.folderCount = 0)
    {d : Half} (hd : d = c.device .usb ∨ d = c.device .sd) :
    RegistersFit c (goto c .checkingFolderCount (s.setSelDevice d)) := by
  simpa [RegistersFit, SourceOnRecord, hres, hfolder] using And.intro hd hfile

/-- Bring-up that ends without a source leaves nothing on record (R254, R257). -/
theorem RegistersFit.finish_without_source (hrec : NothingOnRecord s) {r : EndResult} (hr : r ≠ .ready) :
    RegistersFit c (finish c r s) := by
  cases r <;> simp_all [RegistersFit, NothingOnRecord, endResultValue]

/-- Bring-up that ends READY keeps the source and records the folders (R260). -/
theorem RegistersFit.finish_ready (hrec : SourceOnRecord c s) (n : Half) :
    RegistersFit c (finish c .ready (s.setFolderCount n)) := by
  simpa [RegistersFit, SourceOnRecord, endResultValue] using hrec

/-- FSM_STEP follows the rows of the table (R254 to R260). -/
theorem RegistersFit.fsmStep (h : RegistersFit c s) (ev : FsmEvent) (hev : ev ≠ .enter) :
    RegistersFit c (fsmStep c ev s) := by
  rcases fsmStep_cases c s ev hev with e | ⟨hf, e⟩ | ⟨hf, e⟩ | ⟨hf, e⟩ | ⟨hf, e⟩ | ⟨hf, hn, e⟩ | ⟨hf, e⟩ |
    ⟨hf, hn, e⟩ | ⟨hf, e⟩ | ⟨hf, e⟩ | ⟨hf, e⟩ <;> rw [e]
  · exact h
  all_goals simp only [RegistersFit, hf] at h
  · exact .goto_probe h.1 h.2 (by simp [probing])
  · exact .finish_without_source h.2 (by simp)
  · exact .goto_probe h.1 h.2 (by simp [probing])
  · exact .goto_probe h.1 h.2 (by simp [probing])
  · exact .goto_selecting h.1 h.2 hn (.inl rfl)
  · exact .finish_without_source h.2 (by simp)
  · exact .goto_selecting h.1 h.2 hn (.inr rfl)
  · obtain ⟨hres, -, hfile, hfolder⟩ := h
    exact .goto_folder hres hfile hfolder (.inl rfl)
  · obtain ⟨hres, -, hfile, hfolder⟩ := h
    exact .goto_folder hres hfile hfolder (.inr rfl)
  · obtain ⟨-, hrec, -⟩ := h
    exact .finish_ready hrec _

/-- Entering one of states 1 to 4 arms its deadline (R254 to R257); reentry leaves the timer as it was (R251). -/
theorem goto_armed_of_probing {x : FsmState} (hx : probing x) (hre : x = s.fsmState → s.tmrArmed = true) :
    (goto c x s).tmrArmed = true := by
  by_cases heq : x = s.fsmState
  · subst heq
    simpa using hre rfl
  · rcases hx with rfl | rfl | rfl | rfl <;> rw [goto_entry c s _ heq rfl]

/-- FSM_STEP ends in one of states 1 to 4 with a deadline armed, if it does so where it stays in the state (R264). -/
theorem fsmStep_armed_of_probing (ev : FsmEvent) (hev : ev ≠ .enter)
    (hstay : (fsmStep c ev s).fsmState = s.fsmState → s.tmrArmed = true) (hp : probing (fsmStep c ev s).fsmState) :
    (fsmStep c ev s).tmrArmed = true := by
  rcases fsmStep_goto_or_finish c s ev hev with e | ⟨sel, files, folders, ⟨x, e⟩ | ⟨r, e⟩⟩ <;>
    rw [e] at hstay hp ⊢
  · exact hstay rfl
  · rw [goto_fsmState] at hstay hp
    exact goto_armed_of_probing hp hstay
  · simp [probing] at hp

/-- The synthetic TIMEOUT is never ignored in states 1 to 4 (R254 to R257). -/
theorem fsmStep_timeout_leaves (hp : probing s.fsmState) : (fsmStep c .timeout s).fsmState ≠ s.fsmState := by
  rcases hp with h | h | h | h <;>
    simp [fsmStep, h, handleResettingHardware, handleGettingVersion, handleCheckingUsb, handleCheckingSd, isWireOf,
      isError]

end

/-- An expiry disarms first, which states 1 to 4 do not allow to last: the TIMEOUT always moves them on. -/
theorem bringupConsistent_keptByEffects (c : Config) : KeptByEffects c (BringupConsistent c) where
  scratch _ _ _ _ hs := hs
  sink _ _ _ hs := hs
  cancel s hidle hs := by
    obtain ⟨-, hfit⟩ := (bringupConsistent_iff c s).1 hs
    exact (bringupConsistent_iff c _).2 ⟨by simp [probing, hidle], hfit.cancel⟩
  wire s kind fb param _ hs := by
    obtain ⟨harm, hfit⟩ := (bringupConsistent_iff c s).1 hs
    refine (bringupConsistent_iff c _).2 ⟨fun hp => ?_, hfit.fsmStep _ (by simp)⟩
    exact fsmStep_armed_of_probing _ (by simp) (fun hstay => harm (hstay ▸ hp)) hp
  timeout s _ hs := by
    obtain ⟨-, hfit⟩ := (bringupConsistent_iff c s).1 hs
    refine (bringupConsistent_iff c _).2 ⟨fun hp => ?_, hfit.cancel.fsmStep _ (by simp)⟩
    exact fsmStep_armed_of_probing _ (by simp)
      (fun hstay => absurd hstay (fsmStep_timeout_leaves (hstay ▸ hp))) hp
  transmit s _ _ _ _ hs := by
    obtain ⟨-, hfit⟩ := (bringupConsistent_iff c s).1 hs
    exact (bringupConsistent_iff c _).2 ⟨fun _ => rfl, hfit⟩
  restart s _ := by
    rw [restartBringup_eq, bringupConsistent_iff]
    simp [RegistersFit, NothingOnRecord]

theorem bringupConsistent_powerOn (c : Config) (s : State) : BringupConsistent c s.powerOn := by
  rw [bringupConsistent_iff]
  simp [RegistersFit, NothingOnRecord, probing]

/-! ## The times -/

theorem timeAfter_lt (c : Config) (t d : Nat) : timeAfter c t d < 2 ^ c.clkW :=
  Nat.mod_lt _ (Nat.two_pow_pos _)

theorem timesInRange_keptByEffects (c : Config) : KeptByEffects c (TimesInRange c) :=
  .of_transmits fun s t ht hnow ⟨hdl, hn⟩ => by
    refine ⟨?_, hnow ▸ hn⟩
    rcases ht with ⟨_, hsame, _⟩ | ⟨_, _, _, d, _, _, hnew⟩
    · exact hsame ▸ hdl
    · exact hnew ▸ timeAfter_lt c s.now d

/-- Settles O49: `RegistersFit` with the armed deadlines of states 1 to 4 is kept by every effect; the times are results
of `timeAfter` or sampled mod 2^CLK_W. -/
theorem bringupRegistersStayConsistent : Obligations.BringupRegistersStayConsistent := by
  intro s t he
  refine ⟨fun hs => ?_, fun hs => ?_⟩
  · exact (bringupConsistent_keptByEffects hardware).step (fun _ _ _ h => h) (fun s _ => bringupConsistent_powerOn hardware s)
      hs he
  · exact (timesInRange_keptByEffects hardware).step (fun _ now _ h => ⟨h.1, Nat.mod_lt now (Nat.two_pow_pos _)⟩)
      (fun s h => ⟨Nat.two_pow_pos _, h.2⟩) hs he

end Sys2Proof.Machine
end

section
/-! One step as the instruction it decodes to, and two runs that differ in what R34 and R37 call unobservable. -/

namespace Sys2Proof.Machine

/-- With an input presented, a step takes it and runs the instruction it decodes to (R80). -/
theorem stepBy_of_decode (c : Config) (run : Instr → State → Host.Outcome State Fault Refusal) {s : State} {p : PortOp}
    {rest : List PortOp} {i : Instr} (hp : s.pending = p :: rest) (hi : decode c p.input = .ok i) :
    stepBy c run s = run i (s.take c p.now rest) := by
  simp [stepBy, fetch, fetchInput, takeInput, hp, hi]

/-- Settles O5: exec and perform are the two ways `stepBy` runs what it has taken. -/
theorem stepRunsTheDecodedInstruction : Obligations.StepRunsTheDecodedInstruction := fun _ _ _ _ hp =>
  ⟨stepBy_of_decode hardware _ hp, fun c => stepBy_of_decode c _ hp⟩

/-! ## Agreement of the written cells -/

/-- Below offset 4 no cell of the frame being received has been written (R34). -/
theorem cellsAgree_of_le_three {cur : RxCursor} (h : (cursorCode cur).toNat ≤ 3) (a b : RxBuf) :
    cellsAgree cur a b := by
  refine ⟨?_, ?_, ?_, ?_, ?_, ?_⟩ <;> intro <;> omega

theorem cellsAgree_refl (cur : RxCursor) (a : RxBuf) : cellsAgree cur a a := by
  simp [cellsAgree]

/-- A byte stored at its offset is one more cell written (R144). -/
theorem cellsAgree_store {cur : RxCursor} {a b : RxBuf} (x : Byte) (h : cellsAgree cur a b) :
    cellsAgree (nextCursor cur) (storeCell x a cur) (storeCell x b cur) := by
  cases cur <;> simp_all [cellsAgree, nextCursor, storeCell, cursorCode]

/-- At offset 7 the cells of a short frame have been written. -/
theorem shortRecord_congr {a b : RxBuf} (h : cellsAgree .at7 a b) : shortRecord a = shortRecord b := by
  simp_all [cellsAgree, cursorCode, shortRecord]

/-- At offset 9 the cells of a full frame have been written. -/
theorem fullRecord_congr {a b : RxBuf} (h : cellsAgree .at9 a b) : fullRecord a = fullRecord b := by
  simp_all [cellsAgree, cursorCode, fullRecord]

/-! ## Two runs -/

theorem obsEq_refl (s : State) : ObsEq s s := ⟨rfl, cellsAgree_refl _ _, fun _ => rfl⟩

/-- An update that neither reads nor writes the parser and the timer. -/
structure LeavesParserAndTimer (f : State → State) : Prop where
  update : ∀ (s : State) (buf : RxBuf) (d : Nat),
    f { s with rxBuf := buf, tmrDeadline := d } = { f s with rxBuf := buf, tmrDeadline := d } := by intros; rfl
  rxCur : ∀ s, (f s).rxCur = s.rxCur := by intros; rfl
  rxBuf : ∀ s, (f s).rxBuf = s.rxBuf := by intros; rfl
  tmrArmed : ∀ s, (f s).tmrArmed = s.tmrArmed := by intros; rfl
  tmrDeadline : ∀ s, (f s).tmrDeadline = s.tmrDeadline := by intros; rfl

namespace ObsEq

section
variable {s t : State}

theorem rxCur (h : ObsEq s t) : t.rxCur = s.rxCur := by rw [h.1]
theorem tmrArmed (h : ObsEq s t) : t.tmrArmed = s.tmrArmed := by rw [h.1]
theorem fsmState (h : ObsEq s t) : t.fsmState = s.fsmState := by rw [h.1]
theorem now (h : ObsEq s t) : t.now = s.now := by rw [h.1]
theorem pending (h : ObsEq s t) : t.pending = s.pending := by rw [h.1]

theorem cells (h : ObsEq s t) : cellsAgree s.rxCur s.rxBuf t.rxBuf := h.2.1
theorem tmrDeadline (h : ObsEq s t) (ha : s.tmrArmed = true) : s.tmrDeadline = t.tmrDeadline := h.2.2 ha

theorem update (h : ObsEq s t) {f : State → State} (hf : LeavesParserAndTimer f) : ObsEq (f s) (f t) := by
  obtain ⟨ht, hcells, hdl⟩ := h
  refine ⟨?_, ?_, ?_⟩
  · rw [hf.rxBuf, hf.tmrDeadline]
    exact (congrArg f ht).trans (hf.update s _ _)
  · rw [hf.rxCur, hf.rxBuf, hf.rxBuf]
    exact hcells
  · rw [hf.tmrArmed, hf.tmrDeadline, hf.tmrDeadline]
    exact hdl

/-- Two runs that take the same branch of a test. -/
theorem ite {p : Prop} [Decidable p] {a b a' b' : State} (ha : p → ObsEq a a') (hb : ¬ p → ObsEq b b') :
    ObsEq (if p then a else b) (if p then a' else b') := by
  split_ifs with hp
  · exact ha hp
  · exact hb hp

/-! ### The timer -/

theorem cancel (h : ObsEq s t) : ObsEq s.cancel t.cancel := by
  obtain ⟨ht, hcells, -⟩ := h
  rw [ht]
  exact ⟨rfl, hcells, fun ha => nomatch ha⟩

/-- A TX_FRAME replaces the deadline, whatever it was (R180, R184). -/
theorem txFrame (h : ObsEq s t) (c : Config) (k : Byte) (p : Half) (fb : Bool) (d : Nat) :
    ObsEq (txFrame c k p fb d s) (txFrame c k p fb d t) := by
  obtain ⟨ht, hcells, -⟩ := h
  rw [ht]
  exact ⟨rfl, hcells, fun _ => rfl⟩

/-- The level test reads the deadline only while armed (R181). -/
theorem expired (h : ObsEq s t) (c : Config) : t.expired c = s.expired c := by
  unfold State.expired
  rw [h.tmrArmed, h.now]
  cases ha : s.tmrArmed
  · rfl
  · rw [h.tmrDeadline ha]

/-! ### The FSM -/

theorem enterState (h : ObsEq s t) (c : Config) : ObsEq (enterState c s) (enterState c t) := by
  rw [enterState_eq, enterState_eq, h.fsmState]
  split
  · exact h.txFrame c _ _ _ _
  · exact h

theorem goto (h : ObsEq s t) (c : Config) (x : FsmState) : ObsEq (goto c x s) (goto c x t) := by
  unfold Machine.goto
  rw [h.fsmState]
  have hx : ObsEq (s.cancel.setFsmState x) (t.cancel.setFsmState x) :=
    h.cancel.update (f := State.setFsmState x) {}
  exact .ite (fun _ => h) fun _ => .ite (fun _ => hx) fun _ => hx.enterState c

theorem finish (h : ObsEq s t) (c : Config) (r : EndResult) : ObsEq (finish c r s) (finish c r t) :=
  (h.update (f := fun u => (u.setResult (endResultValue r)).sinkEmit (.bringupEnd r)) {}).goto c .none

theorem setFileCount (h : ObsEq s t) (v : Half) : ObsEq (s.setFileCount v) (t.setFileCount v) :=
  h.update (f := State.setFileCount v) {}

theorem setSelDevice (h : ObsEq s t) (v : Half) : ObsEq (s.setSelDevice v) (t.setSelDevice v) :=
  h.update (f := State.setSelDevice v) {}

theorem setFolderCount (h : ObsEq s t) (v : Half) : ObsEq (s.setFolderCount v) (t.setFolderCount v) :=
  h.update (f := State.setFolderCount v) {}

/-- Each handler tests the event alone, so two runs take the same branch of it. -/
theorem fsmStep (h : ObsEq s t) (c : Config) (ev : FsmEvent) : ObsEq (fsmStep c ev s) (fsmStep c ev t) := by
  unfold Machine.fsmStep
  rw [h.fsmState]
  cases s.fsmState with
  | none => exact h
  | resettingHardware =>
    exact .ite (fun _ => h.txFrame ..) fun _ => .ite (fun _ => h.goto ..) fun _ => .ite (fun _ => h.finish ..) fun _ => h
  | gettingVersion =>
    exact .ite (fun _ => h.txFrame ..) fun _ => .ite (fun _ => h.goto ..) fun _ => .ite (fun _ => h.goto ..) fun _ => h
  | checkingUsbFileCount =>
    exact .ite (fun _ => h.txFrame ..) fun _ =>
      .ite (fun _ => .ite (fun _ => h.goto ..) fun _ => (h.setFileCount _).goto ..) fun _ =>
        .ite (fun _ => h.goto ..) fun _ => h
  | checkingSdFileCount =>
    exact .ite (fun _ => h.txFrame ..) fun _ =>
      .ite (fun _ => .ite (fun _ => h.finish ..) fun _ => (h.setFileCount _).goto ..) fun _ =>
        .ite (fun _ => h.finish ..) fun _ => h
  | selectingUsb =>
    exact .ite (fun _ => h.txFrame ..) fun _ => .ite (fun _ => (h.setSelDevice _).goto ..) fun _ => h
  | selectingSd =>
    exact .ite (fun _ => h.txFrame ..) fun _ => .ite (fun _ => (h.setSelDevice _).goto ..) fun _ => h
  | checkingFolderCount =>
    exact .ite (fun _ => h.txFrame ..) fun _ => .ite (fun _ => (h.setFolderCount _).finish ..) fun _ => h

/-- RESET restarts bring-up from registers it writes itself (R262). -/
theorem restartBringup (h : ObsEq s t) (c : Config) : ObsEq (restartBringup c s) (restartBringup c t) := by
  obtain ⟨ht, hcells, -⟩ := h
  rw [restartBringup_eq, restartBringup_eq, ht]
  exact ⟨rfl, hcells, fun _ => rfl⟩

/-! ### The event path -/

theorem sinkEmitAll (h : ObsEq s t) (ns : List Notification) : ObsEq (s.sinkEmitAll ns) (t.sinkEmitAll ns) :=
  h.update (f := State.sinkEmitAll ns) {}

theorem pushOut (h : ObsEq s t) (o : StepOutput) : ObsEq (s.pushOut o) (t.pushOut o) :=
  h.update (f := State.pushOut o) {}

theorem clearOut (h : ObsEq s t) : ObsEq s.clearOut t.clearOut := h.update (f := State.clearOut) {}

theorem dispatchFrame (h : ObsEq s t) (c : Config) (fr : FrameRecord) :
    ObsEq (dispatchFrame c fr s) (dispatchFrame c fr t) := by
  unfold Machine.dispatchFrame notifyWire
  simp only [h.fsmState]
  have hfsm := ite (p := decide (s.fsmState = .none) = true) (fun _ => h)
    fun _ => h.fsmStep c (.wire fr.kind fr.fb fr.param)
  exact (ite (fun _ => hfsm.cancel) fun _ => hfsm).sinkEmitAll _

theorem dispatchInvalid (h : ObsEq s t) (fr : FrameRecord) : ObsEq (dispatchInvalid fr s) (dispatchInvalid fr t) := by
  unfold Machine.dispatchInvalid
  split
  · exact h.sinkEmitAll [_]
  · exact h

theorem dispatchTimeout (h : ObsEq s t) (c : Config) : ObsEq (dispatchTimeout c s) (dispatchTimeout c t) := by
  unfold Machine.dispatchTimeout
  rw [h.fsmState]
  exact (ite (fun _ => h) fun _ => h.fsmStep c .timeout).sinkEmitAll [_]

theorem tickTimer (h : ObsEq s t) (c : Config) : ObsEq (tickTimer c s) (tickTimer c t) := by
  unfold Machine.tickTimer
  rw [h.expired]
  refine .ite (fun _ => ?_) fun _ => h.pushOut _
  cases c.disarmPoint
  · exact (h.cancel.dispatchTimeout c).pushOut _
  · exact (h.dispatchTimeout c).cancel.pushOut _

/-! ### The parser -/

/-- At offsets 0 to 3 the two runs may differ in every cell (R143). -/
theorem setRxCur (h : ObsEq s t) {cur : RxCursor} (hcur : (cursorCode cur).toNat ≤ 3) :
    ObsEq (s.setRxCur cur) (t.setRxCur cur) := by
  obtain ⟨ht, -, hdl⟩ := h
  rw [ht]
  exact ⟨rfl, cellsAgree_of_le_three hcur _ _, hdl⟩

theorem resync (h : ObsEq s t) (b : Byte) : ObsEq (resync b s) (resync b t) :=
  .ite (fun _ => h.setRxCur (by decide)) fun _ => h.setRxCur (by decide)

theorem feedTemplate (h : ObsEq s t) (x b : Byte) (hcur : (cursorCode (nextCursor s.rxCur)).toNat ≤ 3) :
    ObsEq (feedTemplate x b s) (feedTemplate x b t) := by
  unfold Machine.feedTemplate
  rw [h.rxCur]
  exact (ite (fun _ => h.setRxCur hcur) fun _ => h.resync b).pushOut _

theorem feedStored (h : ObsEq s t) (b : Byte) : ObsEq (feedStored b s) (feedStored b t) := by
  refine pushOut ?_ _
  obtain ⟨ht, hcells, hdl⟩ := h
  rw [ht]
  exact ⟨rfl, cellsAgree_store b hcells, hdl⟩

/-- Two runs that complete the same frame start the next one at offset 0 (R141). -/
theorem complete (h : ObsEq s t) (c : Config) {fr fr' : FrameRecord} (hfr : fr' = fr) :
    ObsEq (complete c fr (s.setRxCur .at0)) (complete c fr' (t.setRxCur .at0)) := by
  have h0 : ObsEq (s.setRxCur .at0) (t.setRxCur .at0) := h.setRxCur (by decide)
  subst hfr
  exact .ite (fun _ => (h0.dispatchFrame c _).pushOut _) fun _ => (h0.dispatchInvalid _).pushOut _

theorem feedByte (h : ObsEq s t) (c : Config) (b : Byte) : ObsEq (feedByte c b s) (feedByte c b t) := by
  have hcells := h.cells
  unfold Machine.feedByte
  rw [h.rxCur]
  cases hs : s.rxCur with
  | at0 | at1 | at2 => exact h.feedTemplate _ b (by rw [hs]; decide)
  | at3 | at4 | at5 | at6 | at8 => exact h.feedStored b
  | at7 => exact .ite (fun _ => h.complete c (shortRecord_congr (hs ▸ hcells)).symm) fun _ => h.feedStored b
  | at9 => exact .ite (fun _ => h.complete c (fullRecord_congr (hs ▸ hcells)).symm) fun _ => (h.resync b).pushOut _

theorem feedBytes (h : ObsEq s t) (c : Config) (bs : List Byte) : ObsEq (feedBytes c bs s) (feedBytes c bs t) := by
  induction bs generalizing s t with
  | nil => exact h
  | cons b bs ih => exact ih (h.feedByte c b)

/-! ### Instructions and steps -/

/-- POR leaves the two runs in the same state (R440). -/
theorem powerOn (h : ObsEq s t) : ObsEq s.powerOn t.powerOn := by
  rw [h.1]
  exact obsEq_refl _

theorem perform (h : ObsEq s t) (c : Config) (i : Instr) : ObsEq (perform c i s) (perform c i t) := by
  cases hm : msgFrame? i with
  | some f =>
    rw [perform_message c hm, perform_message c hm]
    exact h.clearOut.feedBytes c _
  | none =>
    rcases portOp_of_not_message i hm with rfl | ⟨b, rfl⟩ | ⟨fb, k, p, rfl⟩ | rfl | rfl
    · exact h.clearOut.powerOn
    · exact h.clearOut.feedByte c b
    · exact h.clearOut.txFrame c k p fb _
    · exact h.clearOut.tickTimer c
    · exact h.clearOut.restartBringup c

theorem takeInput (h : ObsEq s t) (c : Config) : ObsEq (takeInput c s) (takeInput c t) := by
  unfold Machine.takeInput
  rw [h.pending]
  split
  · exact h
  · exact h.update (f := State.take c _ _) {}

/-- The input port is observable, so both runs are offered the same; then the instructions agree. -/
theorem stepWith (h : ObsEq s t) (c : Config) : SameOutcome (stepWith c s) (stepWith c t) := by
  have hfetch : fetch c t = fetch c s := by
    unfold fetch
    rw [h.pending]
  unfold Machine.stepWith stepBy
  rw [hfetch]
  cases fetch c s with
  | idle => exact h
  | instr i => exact (h.takeInput c).perform c i
  | bytes bs => exact (h.takeInput c).clearOut.feedBytes c bs
  | reserved r => exact rfl

end

end ObsEq

/-- Settles O56: two runs stay alike through every shared operation, because a cell is read only after the frame being
received has written it and the deadline only while armed. -/
theorem staleCellsAndDisarmedDeadlineAreUnobservable : Obligations.StaleCellsAndDisarmedDeadlineAreUnobservable := by
  intro s t h
  rw [step_eq_stepWith, step_eq_stepWith]
  exact h.stepWith hardware

end Sys2Proof.Machine
end

section
/-! A burst of bytes as one input: what the frame decoder reads from it has the same bytes, so the block receives it byte
by byte whether or not it is a row of the table. -/

namespace Sys2Proof

/-- A kind byte that decodes is the code of the kind it decodes to (R300). -/
theorem decodeMsg_ok {c : Config} {kind fb paramHi paramLo : Byte} {tail : FrameTail} {i : Instr}
    (h : decodeMsg c kind fb paramHi paramLo tail = .ok i) :
    ∃ k, c.kind k = kind ∧ Machine.msgFrame? i = some ⟨k, fb, paramHi ++ paramLo, tail⟩ := by
  unfold decodeMsg at h
  split at h
  · next k hk =>
    cases h
    exact ⟨k, Machine.kind_of_kindOf? hk, msgFrame?_ofMsgFrame _⟩
  · cases h

/-- A burst that decodes is the frame of the message instruction it decodes to, byte for byte (R100, R101). -/
theorem decodeFrame_ok {c : Config} {bs : List Byte} {i : Instr} (h : decodeFrame c bs = .ok i) :
    ∃ f, Machine.msgFrame? i = some f ∧ frameBytes (c.kind f.kind) f.fb f.param f.tail = bs := by
  unfold decodeFrame at h
  split at h
  case h_1 | h_2 =>
    split_ifs at h with hfixed
    obtain ⟨rfl, rfl, rfl, rfl⟩ := hfixed
    obtain ⟨k, rfl, hf⟩ := decodeMsg_ok h
    exact ⟨_, hf, by simp [frameBytes]⟩
  case h_3 => cases h

namespace Machine

/-- A burst that is a row of the table runs as a FEED of each of its bytes (R112; log 1). -/
theorem perform_of_decodeFrame {c : Config} {bs : List Byte} {i : Instr} (h : decodeFrame c bs = .ok i) (s : State) :
    perform c i s = receiveBytes c bs s := by
  obtain ⟨f, hf, rfl⟩ := decodeFrame_ok h
  exact perform_message c hf s

/-- With a burst presented, a step takes it and receives its bytes, decoded or not (R108; log 9). -/
theorem stepWith_of_burst (c : Config) {s : State} {t : Nat} {bs : List Byte} {rest : List PortOp}
    (hp : s.pending = ⟨t, .rx bs⟩ :: rest) : stepWith c s = .next (receiveBytes c bs (s.take c t rest)) := by
  cases hd : decodeFrame c bs with
  | ok i => rw [stepWith, stepBy_of_decode c _ hp hd, perform_of_decodeFrame hd]
  | error e => simp [stepWith, stepBy, fetch, fetchInput, takeInput, hp, hd]

/-- Settles O7: the step receives the bytes from the state whose input has been taken and whose outputs are cleared. -/
theorem stepReceivesAnyBurst : Obligations.StepReceivesAnyBurst := fun s _ _ _ hp =>
  (step_eq_stepWith s).trans (stepWith_of_burst hardware hp)

end Machine

end Sys2Proof
end

section
/-! Decode and encode agree. A word is cut into its fields once; R110's match and mask rows are then equations of fields, and
the decoder of operation words is that table. -/

namespace Sys2Proof

/-! ## A word and its fields -/

/-- A word of `m + n` bits is its high `m` bits followed by its low `n`. -/
theorem high_append_low {m n : Nat} (w : BitVec (m + n)) : w.extractLsb' n m ++ w.extractLsb' 0 n = w := by
  rw [BitVec.extractLsb'_append_extractLsb'_eq_extractLsb' (Nat.zero_add n).symm, BitVec.extractLsb'_eq_self]

theorem append_eq_append_iff {m n : Nat} {a a' : BitVec m} {b b' : BitVec n} :
    a ++ b = a' ++ b' ↔ a = a' ∧ b = b' := by
  refine ⟨fun h => ⟨?_, ?_⟩, fun ⟨ha, hb⟩ => ha ▸ hb ▸ rfl⟩
  · simpa only [BitVec.extractLsb'_append_eq_left] using congrArg (BitVec.extractLsb' n m) h
  · simpa only [BitVec.extractLsb'_append_eq_right] using congrArg (BitVec.extractLsb' 0 n) h

/-- A field of `m + n` bits at bit `k` has a given value exactly when its two parts have theirs. -/
theorem field_eq_append_iff {len m n : Nat} (k : Nat) (x : BitVec len) (a : BitVec m) (b : BitVec n) :
    x.extractLsb' k (m + n) = a ++ b ↔ x.extractLsb' (k + n) m = a ∧ x.extractLsb' k n = b := by
  rw [← BitVec.extractLsb'_append_extractLsb'_eq_extractLsb' rfl, append_eq_append_iff]

/-- Matching under a mask of high bits compares the high field alone (R110). -/
theorem and_highMask_eq_iff {m n : Nat} (w : BitVec (m + n)) (hi : BitVec m) :
    w &&& (BitVec.allOnes m ++ 0#n) = hi ++ 0#n ↔ w.extractLsb' n m = hi := by
  conv_lhs => rw [← high_append_low w]
  rw [BitVec.and_append, BitVec.and_allOnes, BitVec.and_zero, BitVec.append_left_inj]

theorem ofBool_getLsbD {len : Nat} (x : BitVec len) (k : Nat) : BitVec.ofBool (x.getLsbD k) = x.extractLsb' k 1 := by
  ext i hi
  obtain rfl : i = 0 := by omega
  simp

/-! ## The rows of R110 -/

/-- A row without an operand: the bits that must be 0 are all the bits below `opc`. -/
theorem bareRow_iff (w : OpWord) (opc : BitVec 4) :
    w = opc ++ (0 : BitVec 28) ↔ w.extractLsb' 28 4 = opc ∧ w.extractLsb' 0 28 = 0 := by
  rw [← field_eq_append_iff (m := 4) (n := 28), BitVec.extractLsb'_eq_self]

theorem feedRow_iff_high (w : OpWord) : w &&& 0xFFFFFF00 = 0x10000000 ↔ w.extractLsb' 8 24 = 0x100000 :=
  and_highMask_eq_iff (m := 24) (n := 8) w 0x100000

theorem feedRow_iff (w : OpWord) :
    w &&& 0xFFFFFF00 = 0x10000000 ↔ w.extractLsb' 28 4 = 0x1 ∧ w.extractLsb' 8 20 = 0 :=
  (feedRow_iff_high w).trans (field_eq_append_iff (m := 4) (n := 20) 8 w 0x1 0)

theorem sendRow_iff_high (w : OpWord) : w &&& 0xFE000000 = 0x20000000 ↔ w.extractLsb' 25 7 = 0x10 :=
  and_highMask_eq_iff (m := 7) (n := 25) w 0x10

theorem sendRow_iff (w : OpWord) :
    w &&& 0xFE000000 = 0x20000000 ↔ w.extractLsb' 28 4 = 0x2 ∧ w.extractLsb' 25 3 = 0 :=
  (sendRow_iff_high w).trans (field_eq_append_iff (m := 4) (n := 3) 25 w 0x2 0)

/-- The decoder of operation words is R110's match and mask table, with the operand fields of R109. -/
theorem decodeOpWord_eq_ok_iff (w : OpWord) (i : Instr) :
    decodeOpWord w = .ok i ↔
      (w = 0x00000000 ∧ .por = i) ∨
      (w &&& 0xFFFFFF00 = 0x10000000 ∧ .feed (w.extractLsb' 0 8) = i) ∨
      (w &&& 0xFE000000 = 0x20000000 ∧ .send (w.getLsbD 24) (w.extractLsb' 16 8) (w.extractLsb' 0 16) = i) ∨
      (w = 0x30000000 ∧ .tick = i) ∨
      (w = 0x40000000 ∧ .reset = i) := by
  have hpor : w = 0x00000000 ↔ _ := bareRow_iff w 0x0
  have htick : w = 0x30000000 ↔ _ := bareRow_iff w 0x3
  have hreset : w = 0x40000000 ↔ _ := bareRow_iff w 0x4
  rw [hpor, feedRow_iff, sendRow_iff, htick, hreset]
  dsimp only [decodeOpWord]
  split_ifs <;> simp_all

/-! ## The encoding of each row -/

/-- The encoding of a FEED matches its row. -/
theorem feedRow_encode (b : Byte) : ((0x100000 : BitVec 24) ++ b) &&& 0xFFFFFF00 = (0x10000000 : OpWord) :=
  (feedRow_iff_high _).2 BitVec.extractLsb'_append_eq_left

/-- The encoding of a SEND matches its row. -/
theorem sendRow_encode (fb : Bool) (kind : Byte) (param : Half) :
    ((0x10 : BitVec 7) ++ BitVec.ofBool fb ++ kind ++ param) &&& 0xFE000000 = (0x20000000 : OpWord) := by
  refine (sendRow_iff_high _).2 ?_
  rw [BitVec.extractLsb'_append_eq_of_le (by decide), BitVec.extractLsb'_append_eq_of_le (by decide)]
  exact BitVec.extractLsb'_append_eq_left

/-- The operand fields of the encoding of a SEND are its operands (R109). -/
theorem sendFields_encode (fb : Bool) (kind : Byte) (param : Half) :
    ((0x10 : BitVec 7) ++ BitVec.ofBool fb ++ kind ++ param).getLsbD 24 = fb ∧
    ((0x10 : BitVec 7) ++ BitVec.ofBool fb ++ kind ++ param).extractLsb' 16 8 = kind ∧
    ((0x10 : BitVec 7) ++ BitVec.ofBool fb ++ kind ++ param).extractLsb' 0 16 = param := by
  refine ⟨?_, ?_, BitVec.extractLsb'_append_eq_right⟩
  · simp only [BitVec.getLsbD_append]
    simp
  · rw [BitVec.extractLsb'_append_eq_of_le (by decide)]
    exact BitVec.extractLsb'_append_eq_right

/-- A word of FEED's row is the encoding of its operand. -/
theorem encode_of_feedRow {w : OpWord} (h : w &&& 0xFFFFFF00 = 0x10000000) :
    (0x100000 : BitVec 24) ++ w.extractLsb' 0 8 = w := by
  rw [← (feedRow_iff_high w).1 h]
  exact high_append_low (m := 24) (n := 8) w

/-- A word of SEND's row is the encoding of its operands. -/
theorem encode_of_sendRow {w : OpWord} (h : w &&& 0xFE000000 = 0x20000000) :
    (0x10 : BitVec 7) ++ BitVec.ofBool (w.getLsbD 24) ++ w.extractLsb' 16 8 ++ w.extractLsb' 0 16 = w := by
  rw [← (sendRow_iff_high w).1 h, ofBool_getLsbD, BitVec.extractLsb'_append_extractLsb'_eq_extractLsb' (by rfl),
    BitVec.extractLsb'_append_extractLsb'_eq_extractLsb' (by rfl)]
  exact high_append_low (m := 16) (n := 16) w

/-! ## Round trips -/

/-- The round trip of the five port operations, at any parameters. -/
theorem decode_encode_portOp (c : Config) {i : Instr} (h : Machine.msgFrame? i = none) :
    decode c (encode c i) = .ok i := by
  rcases Machine.portOp_of_not_message i h with rfl | ⟨b, rfl⟩ | ⟨fb, kind, param, rfl⟩ | rfl | rfl
  · rfl
  · have hb : ((0x100000 : BitVec 24) ++ b).extractLsb' 0 8 = b := BitVec.extractLsb'_append_eq_right
    exact (decodeOpWord_eq_ok_iff _ _).2 (.inr (.inl ⟨feedRow_encode b, congrArg _ hb⟩))
  · obtain ⟨hfb, hkind, hparam⟩ := sendFields_encode fb kind param
    refine (decodeOpWord_eq_ok_iff _ _).2 (.inr (.inr (.inl ⟨sendRow_encode fb kind param, ?_⟩)))
    exact (Instr.send.injEq ..).mpr ⟨hfb, hkind, hparam⟩
  · rfl
  · rfl

/-- The bytes of a frame decode to its message instruction, where KIND is injective (R7, R100, R101). -/
theorem decodeFrame_frameBytes {c : Config} (hc : c.Valid) (f : Machine.MsgFrame) :
    decodeFrame c (frameBytes (c.kind f.kind) f.fb f.param f.tail) = .ok (Machine.ofMsgFrame f) := by
  obtain ⟨kind, fb, param, tail⟩ := f
  have hkind := Machine.kindOf?_kind hc kind
  cases tail <;> simp [frameBytes, decodeFrame, decodeMsg, hkind, bytes_append]

/-- Settles O1: a message instruction by its frame's bytes, a port operation by the row of its word. A frame whose
chk_hi is END decodes to its instruction too, so that it is ill-formed plays no part (log 17). -/
theorem decodeOfEncodeIsTheInstruction : Obligations.DecodeOfEncodeIsTheInstruction := by
  intro c i hc _
  cases hm : Machine.msgFrame? i with
  | some f => rw [encode_message c hm, decode_rx, decodeFrame_frameBytes hc, ofMsgFrame_of_msgFrame? i f hm]
  | none => exact decode_encode_portOp c hm

/-- Settles O2: a word is rebuilt from the fields its row reads, a burst from the bytes of its frame. -/
theorem encodeOfDecodeIsTheInput : Obligations.EncodeOfDecodeIsTheInput := by
  intro c p i h
  cases p with
  | op w =>
    rcases (decodeOpWord_eq_ok_iff w i).1 h with ⟨rfl, rfl⟩ | ⟨hw, rfl⟩ | ⟨hw, rfl⟩ | ⟨rfl, rfl⟩ | ⟨rfl, rfl⟩
    · rfl
    · exact congrArg PortInput.op (encode_of_feedRow hw)
    · exact congrArg PortInput.op (encode_of_sendRow hw)
    · rfl
    · rfl
  | rx bytes =>
    obtain ⟨f, hf, rfl⟩ := decodeFrame_ok h
    exact encode_message c hf

namespace Machine

/-- A reserved word, presented, is refused, whatever performs the instructions (R110; log 8). -/
theorem stepBy_of_reserved (c : Config) (run : Instr → State → Host.Outcome State Fault Refusal) {s : State} {t : Nat}
    {w : OpWord} {rest : List PortOp} {e : DecodeError} (hp : s.pending = ⟨t, .op w⟩ :: rest)
    (he : decodeOpWord w = .error e) : stepBy c run s = .refused (opWordRefusal e) := by
  simp [stepBy, fetch, fetchInput, hp, he]

end Machine

/-- Settles O3: each row of the table in turn; a word of no row does not decode, so the step refuses it. -/
theorem operationWordRowsAndReservedWords : Obligations.OperationWordRowsAndReservedWords := by
  intro c w
  have rows := decodeOpWord_eq_ok_iff w
  refine ⟨fun h => (rows _).2 (.inl ⟨h, rfl⟩), fun h => (rows _).2 (.inr (.inl ⟨h, rfl⟩)),
    fun h => (rows _).2 (.inr (.inr (.inl ⟨h, rfl⟩))), fun h => (rows _).2 (.inr (.inr (.inr (.inl ⟨h, rfl⟩)))),
    fun h => (rows _).2 (.inr (.inr (.inr (.inr ⟨h, rfl⟩)))), ?_⟩
  rintro ⟨hpor, hfeed, hsend, htick, hreset⟩
  have hreserved : ∀ i, decodeOpWord w ≠ .ok i := by
    intro i hi
    rcases (rows i).1 hi with ⟨h, -⟩ | ⟨h, -⟩ | ⟨h, -⟩ | ⟨h, -⟩ | ⟨h, -⟩ <;> contradiction
  refine ⟨hreserved, fun s t rest hp => ?_⟩
  cases hd : decodeOpWord w with
  | ok i => exact absurd hd (hreserved i)
  | error e => exact ⟨_, Machine.stepBy_of_reserved Machine.hardware _ hp hd, Machine.stepBy_of_reserved c _ hp hd⟩

/-- Settles O4: each word is laid out and decoded as R100 and R110 say. -/
theorem sampleWordsDecode : Obligations.SampleWordsDecode := by
  unfold Obligations.SampleWordsDecode
  decide

end Sys2Proof
end

section
/-! The high byte of a checksum, for either span (R103, R113). -/

namespace Sys2Proof.Machine

/-- The high byte of the checksum, from the sum as a number. -/
theorem hiByte_checksum_toNat (c : Config) (kind fb paramHi paramLo : Byte) :
    (hiByte (checksum c kind fb paramHi paramLo)).toNat =
      (2 ^ 16 - (checksumSum c kind fb paramHi paramLo).toNat) % 2 ^ 16 / 2 ^ 8 := by
  simp only [hiByte, checksum, BitVec.extractLsb'_toNat, BitVec.toNat_sub, BitVec.ofNat_eq_ofNat,
    BitVec.toNat_ofNat, Nat.shiftRight_eq_div_pow]
  omega

/-- The normative span: the sum is at most 4 · 255 (R113). -/
theorem hiByte_checksum_payload (c : Config) (h : c.chkSpan = .payload) (kind fb paramHi paramLo : Byte) :
    hiByte (checksum c kind fb paramHi paramLo) ∈ ([0xFC, 0xFD, 0xFE, 0xFF, 0x00] : List Byte) := by
  have hhi := hiByte_checksum_toNat c kind fb paramHi paramLo
  rw [checksumSum_payload c h] at hhi
  have := kind.isLt
  have := fb.isLt
  have := paramHi.isLt
  have := paramLo.isLt
  simp only [List.mem_cons, List.not_mem_nil, or_false, ← BitVec.toNat_inj, BitVec.ofNat_eq_ofNat, BitVec.toNat_ofNat]
  omega

/-- The alternative span: the sum lies between 0x105 and 0x105 + 4 · 255 (R113). -/
theorem hiByte_checksum_headerAndPayload (c : Config) (h : c.chkSpan = .headerAndPayload)
    (kind fb paramHi paramLo : Byte) :
    hiByte (checksum c kind fb paramHi paramLo) ∈ ([0xFA, 0xFB, 0xFC, 0xFD, 0xFE] : List Byte) := by
  have hhi := hiByte_checksum_toNat c kind fb paramHi paramLo
  rw [checksumSum_headerAndPayload c h] at hhi
  have := kind.isLt
  have := fb.isLt
  have := paramHi.isLt
  have := paramLo.isLt
  simp only [List.mem_cons, List.not_mem_nil, or_false, ← BitVec.toNat_inj, BitVec.ofNat_eq_ofNat, BitVec.toNat_ofNat]
  omega

/-- Settles O20: END is in neither range. -/
theorem checksumHighByteIsNeverEnd : Obligations.ChecksumHighByteIsNeverEnd := by
  intro c kind fb paramHi paramLo
  refine ⟨(hiByte_checksum_payload c · ..), (hiByte_checksum_headerAndPayload c · ..), fun hend => ?_⟩
  cases h : c.chkSpan with
  | payload => exact absurd (hend ▸ hiByte_checksum_payload c h kind fb paramHi paramLo) (by decide)
  | headerAndPayload => exact absurd (hend ▸ hiByte_checksum_headerAndPayload c h kind fb paramHi paramLo) (by decide)

end Sys2Proof.Machine
end

section
/-! A burst of bytes against a FEED operation for each: the block does not read the step outputs, so the two differ in these
alone (R45, R112). -/

namespace Sys2Proof.Machine

/-! ## The receive path does not read the step outputs -/

/-- The state with these step outputs on the output port. -/
def State.withOut (out : List StepOutput) (s : State) : State := { s with stepOut := out }

section
variable (c : Config) (s : State) (out : List StepOutput)

theorem pushOut_withOut (o : StepOutput) : (s.withOut out).pushOut o = (s.pushOut o).withOut (out ++ [o]) := rfl

theorem dispatchFrame_withOut (fr : FrameRecord) :
    dispatchFrame c fr (s.withOut out) = (dispatchFrame c fr s).withOut out :=
  dispatchFrame_withStepOut c s fr out

theorem dispatchInvalid_withOut (fr : FrameRecord) :
    dispatchInvalid fr (s.withOut out) = (dispatchInvalid fr s).withOut out := by
  unfold dispatchInvalid
  cases fr.chk <;> rfl

/-- COMPLETE returns its step output after those already returned. -/
theorem complete_withOut (fr : FrameRecord) :
    complete c fr (s.withOut out) = (complete c fr s).withOut (out ++ [.feed true (recordValid c fr)]) := by
  unfold complete
  cases recordValid c fr with
  | true => rw [if_pos rfl, if_pos rfl, dispatchFrame_withOut, pushOut_withOut]
  | false => rw [if_neg (by decide), if_neg (by decide), dispatchInvalid_withOut, pushOut_withOut]

theorem resync_withOut (b : Byte) : resync b (s.withOut out) = (resync b s).withOut out := by
  rw [resync_eq, resync_eq]
  rfl

theorem feedTemplate_withOut (x b : Byte) :
    feedTemplate x b (s.withOut out) = (feedTemplate x b s).withOut (out ++ [.feed false false]) := by
  unfold feedTemplate
  split_ifs
  · rfl
  · rw [resync_withOut, pushOut_withOut]

theorem feedStored_withOut (b : Byte) :
    feedStored b (s.withOut out) = (feedStored b s).withOut (out ++ [.feed false false]) := rfl

/-- FEED returns one step output, after those already returned, and reads none (R45). -/
theorem feedByte_withOut (b : Byte) :
    ∃ o, ∀ out, feedByte c b (s.withOut out) = (feedByte c b s).withOut (out ++ [o]) := by
  have hcur : ∀ out, (s.withOut out).rxCur = s.rxCur := fun _ => rfl
  simp only [feedByte, hcur]
  cases s.rxCur with
  | at0 | at1 | at2 => exact ⟨_, fun out => feedTemplate_withOut s out _ b⟩
  | at3 | at4 | at5 | at6 | at8 => exact ⟨_, fun out => feedStored_withOut s out b⟩
  | at7 =>
    split_ifs
    · exact ⟨_, fun out => complete_withOut c (s.setRxCur .at0) out (shortRecord s.rxBuf)⟩
    · exact ⟨_, fun out => feedStored_withOut s out b⟩
  | at9 =>
    split_ifs
    · exact ⟨_, fun out => complete_withOut c (s.setRxCur .at0) out (fullRecord s.rxBuf)⟩
    · exact ⟨.feed false false, fun out => by rw [resync_withOut, pushOut_withOut]⟩

end

/-! ## FEED operations one after the other -/

theorem execAll_feed (b : Byte) (is : List Instr) (s : State) :
    execAll (.feed b :: is) s = execAll is (feedByte hardware b s.clearOut) := rfl

theorem execOutputs_feed (b : Byte) (is : List Instr) (s : State) :
    execOutputs (.feed b :: is) s =
      (execOutputs is (feedByte hardware b s.clearOut)).map ((feedByte hardware b s.clearOut).stepOut ++ ·) := rfl

/-- FEED operations against the burst of their bytes: one step output each, which the burst keeps after those it starts
with; of the operations, the last leaves its own alone. -/
theorem execAll_feeds (bs : List Byte) (s : State) :
    ∃ u outs, execAll (bs.map .feed) s = some u ∧ execOutputs (bs.map .feed) s = some outs ∧
      outs.length = bs.length ∧ (bs ≠ [] → u.stepOut = outs.drop (outs.length - 1)) ∧
      ∀ out, feedBytes hardware bs (s.withOut out) = u.withOut (out ++ outs) := by
  induction bs generalizing s with
  | nil => exact ⟨s, [], rfl, rfl, rfl, fun h => absurd rfl h, fun out => by rw [List.append_nil]; rfl⟩
  | cons b bs ih =>
    obtain ⟨o, ho⟩ := feedByte_withOut hardware s b
    have hfeed : feedByte hardware b s.clearOut = (feedByte hardware b s).withOut [o] := ho []
    obtain ⟨u, outs, hu, houts, hlen, hlast, hburst⟩ := ih ((feedByte hardware b s).withOut [o])
    refine ⟨u, o :: outs, ?_, ?_, congrArg Nat.succ hlen, fun _ => ?_, fun out => ?_⟩
    · rw [List.map_cons, execAll_feed, hfeed, hu]
    · rw [List.map_cons, execOutputs_feed, hfeed, houts]
      rfl
    · cases bs with
      | nil =>
        cases hu
        obtain rfl := List.length_eq_zero_iff.1 hlen
        rfl
      | cons b' bs =>
        obtain ⟨o', outs, rfl⟩ := List.exists_cons_of_length_eq_add_one hlen
        exact hlast (List.cons_ne_nil _ _)
    · rw [feedBytes, ho, List.append_cons out o outs]
      exact hburst (out ++ [o])

theorem frameBytes_ne_nil (kind fb : Byte) (param : Half) (tail : FrameTail) : frameBytes kind fb param tail ≠ [] := by
  cases tail <;> simp [frameBytes]

/-- Settles O8: a message instruction is the burst of its frame's bytes. -/
theorem messageInstructionIsItsFeeds : Obligations.MessageInstructionIsItsFeeds := by
  intro i f s hf
  dsimp only
  obtain ⟨u, outs, hu, houts, hlen, hlast, hburst⟩ :=
    execAll_feeds (frameBytes (hardware.kind f.kind) f.fb f.param f.tail) s
  refine ⟨u.withOut outs, u, outs, ?_, hu, houts, by rw [hlen, List.length_map], rfl, rfl,
    hlast (frameBytes_ne_nil _ _ _ _)⟩
  rw [exec_message hf]
  exact congrArg Host.Outcome.next (hburst [])

/-! ## The written form -/

/-- A line expands to port operations (R112). -/
theorem msgFrame?_of_mem_expandAsm {c : Config} {a : AsmOp} {i : Instr} (h : i ∈ expandAsm c a) :
    msgFrame? i = none := by
  have hfeeds : ∀ bs : List Byte, i ∈ feedOps bs → msgFrame? i = none := by
    intro bs hi
    obtain ⟨b, -, rfl⟩ := List.mem_map.1 hi
    rfl
  cases a with
  | por | feed | send | tick | reset | cmd | query =>
    obtain rfl := List.mem_singleton.1 h
    rfl
  | feeds | rxFrame | rxShort => exact hfeeds _ h
  | update bs =>
    rcases List.mem_append.1 h with h | h
    · exact hfeeds _ h
    · obtain rfl := List.mem_singleton.1 h
      rfl

/-- Settles O60: what a line presents is the encoding of port operations, which decode at any parameters; each expansion
is `expandAsm`'s own case; FEEDS is a burst. -/
theorem pseudoOperationsAreTheirExpansions : Obligations.PseudoOperationsAreTheirExpansions := by
  refine ⟨fun c a t => ⟨?_, ?_⟩, fun c => ?_, fun bs s => ?_⟩
  · rw [asmInputs, List.map_map]
    exact List.map_congr_left fun i hi => decode_encode_portOp c (msgFrame?_of_mem_expandAsm hi)
  · intro p hp
    obtain ⟨i, -, rfl⟩ := List.mem_map.1 hp
    rfl
  · exact ⟨rfl, rfl, rfl, fun _ => rfl, fun _ _ _ => rfl, fun _ => rfl, fun _ _ _ => rfl, fun _ _ _ => rfl,
      fun _ => rfl, fun _ _ => rfl, fun _ => rfl⟩
  · obtain ⟨u, outs, hu, houts, hlen, -, hburst⟩ := execAll_feeds bs s
    refine ⟨u, outs, hu, ?_, houts, hlen, congrArg State.stepOut (hburst [])⟩
    rw [show feedBytes hardware bs s = _ from hburst s.stepOut]
    rfl

end Sys2Proof.Machine
end

section
/-! The receive parser, byte by byte and by whole frames (R141 to R153): what a FEED does at each offset, what the bytes
of a frame do to an open parser, and when the checksum fits. -/

namespace Sys2Proof.Machine

/-! ## The bytes of a field -/

@[simp] theorem hiByte_append (hi lo : Byte) : hiByte (hi ++ lo) = hi := BitVec.extractLsb'_append_eq_left

@[simp] theorem loByte_append (hi lo : Byte) : loByte (hi ++ lo) = lo := BitVec.extractLsb'_append_eq_right

@[simp] theorem hiByte_append_loByte (v : Half) : hiByte v ++ loByte v = v :=
  high_append_low (m := 8) (n := 8) v

theorem fbByte_eq (fb : Bool) : fbByte fb = if fb then 0x01 else 0x00 := by cases fb <;> rfl

theorem fbByte_ne_end (fb : Bool) : fbByte fb ≠ endByte := by cases fb <;> decide

/-! ## The checksum -/

/-- Sum and checksum add to 0 exactly at the checksum that ENCODE writes (R103). -/
theorem checksumSum_add_eq_zero_iff (c : Config) (k f ph pl : Byte) (chk : Half) :
    checksumSum c k f ph pl + chk = 0 ↔ chk = checksum c k f ph pl := by
  rw [checksum, BitVec.eq_sub_iff_add_eq, BitVec.add_comm]

/-- A full record is valid exactly when it carries the checksum of its own bytes (R148). -/
theorem recordValid_full_iff (c : Config) (k f : Byte) (p chk : Half) :
    recordValid c ⟨k, f, p, some chk⟩ = true ↔ chk = checksum c k f (hiByte p) (loByte p) := by
  rw [← checksumSum_add_eq_zero_iff]
  exact beq_iff_eq

/-- For either span the sum is a constant and the four payload bytes, and never wraps 16 bits. -/
theorem checksumSum_toNat (c : Config) :
    ∃ base, ∀ k f ph pl, (checksumSum c k f ph pl).toNat = base + (k.toNat + f.toNat + ph.toNat + pl.toNat) := by
  cases h : c.chkSpan with
  | payload => exact ⟨0, fun k f ph pl => by rw [checksumSum_payload c h, Nat.zero_add]⟩
  | headerAndPayload =>
    exact ⟨0xFF + 0x06, fun k f ph pl => by rw [checksumSum_headerAndPayload c h]; omega⟩

/-- Two payloads have one checksum exactly when their bytes have one sum. -/
theorem checksum_eq_iff (c : Config) (k f ph pl k' f' ph' pl' : Byte) :
    checksum c k f ph pl = checksum c k' f' ph' pl' ↔
      k.toNat + f.toNat + ph.toNat + pl.toNat = k'.toNat + f'.toNat + ph'.toNat + pl'.toNat := by
  obtain ⟨base, hsum⟩ := checksumSum_toNat c
  rw [checksum, checksum, BitVec.sub_right_inj, ← BitVec.toNat_inj, hsum, hsum, Nat.add_left_cancel_iff]

theorem hiByte_checksum_ne_end (c : Config) (k f ph pl : Byte) : hiByte (checksum c k f ph pl) ≠ endByte := by
  obtain ⟨-, -, hne⟩ := checksumHighByteIsNeverEnd c k f ph pl
  exact hne

/-- Settles O19: the checksum and the sum of R103. -/
theorem encodedFrameLayoutAndChecksum : Obligations.EncodedFrameLayoutAndChecksum := by
  intro c kind param fb
  have hfb : (fbByte fb).toNat = if fb then 1 else 0 := by cases fb <;> rfl
  refine ⟨checksum c kind (fbByte fb) (hiByte param) (loByte param),
    checksumSum c kind (fbByte fb) (hiByte param) (loByte param), ?_, ?_, ?_, fun h => ?_, fun h => ?_⟩
  · rw [← fbByte_eq]
    rfl
  · simp [checksum]
  · exact (checksumSum_add_eq_zero_iff ..).2 rfl
  · rw [← hfb, ← Nat.mod_eq_of_lt (BitVec.isLt _), checksumSum_payload c h]
    rfl
  · rw [← hfb, ← Nat.mod_eq_of_lt (BitVec.isLt _), checksumSum_headerAndPayload c h]
    rfl

/-! ## One byte at each offset -/

section
variable (c : Config) {s : State} (b : Byte)

/-- A template position (R142, R143) as one update of the cursor and the step output. -/
theorem feedTemplate_eq (x b : Byte) (s : State) :
    feedTemplate x b s =
      { s with
        rxCur := if b = x then nextCursor s.rxCur else if b = startByte then .at1 else .at0,
        stepOut := s.stepOut ++ [.feed false false] } := by
  unfold feedTemplate
  rw [resync_eq]
  split_ifs <;> rfl

/-- A stored position (R144) as one update. -/
theorem feedStored_eq (b : Byte) (s : State) :
    feedStored b s =
      { s with
        rxCur := nextCursor s.rxCur, rxBuf := storeCell b s.rxBuf s.rxCur,
        stepOut := s.stepOut ++ [.feed false false] } := rfl

/-- At offset 0 a byte begins a frame or is discarded (R142, R143). -/
theorem feedByte_at0 (h : s.rxCur = .at0) :
    feedByte c b s =
      { s with
        rxCur := if b = startByte then .at1 else .at0, stepOut := s.stepOut ++ [.feed false false] } := by
  simp only [feedByte, h, feedTemplate_eq, nextCursor]
  split_ifs <;> rfl

theorem feedByte_at1 (h : s.rxCur = .at1) : feedByte c b s = feedTemplate verByte b s := by simp only [feedByte, h]

theorem feedByte_at2 (h : s.rxCur = .at2) : feedByte c b s = feedTemplate lenByte b s := by simp only [feedByte, h]

/-- The offsets that store any byte (R144). -/
theorem feedByte_stored (h : s.rxCur ∈ [.at3, .at4, .at5, .at6, .at8]) : feedByte c b s = feedStored b s := by
  simp only [List.mem_cons, List.not_mem_nil, or_false] at h
  rcases h with h | h | h | h | h <;> simp only [feedByte, h]

/-- Offset 7 stores a byte other than END (R145). -/
theorem feedByte_at7_of_ne (h : s.rxCur = .at7) (hb : b ≠ endByte) : feedByte c b s = feedStored b s := by
  simp only [feedByte, h, if_neg hb]

/-- Offset 9 resynchronises on a byte other than END (R143). -/
theorem feedByte_at9_of_ne (h : s.rxCur = .at9) (hb : b ≠ endByte) :
    feedByte c b s =
      { s with
        rxCur := if b = startByte then .at1 else .at0, stepOut := s.stepOut ++ [.feed false false] } := by
  simp only [feedByte, h, if_neg hb, resync_eq]
  rfl

theorem feedByte_at7_end (h : s.rxCur = .at7) :
    feedByte c endByte s = complete c (shortRecord s.rxBuf) (s.setRxCur .at0) := by
  simp only [feedByte, h, if_true]

theorem feedByte_at9_end (h : s.rxCur = .at9) :
    feedByte c endByte s = complete c (fullRecord s.rxBuf) (s.setRxCur .at0) := by
  simp only [feedByte, h, if_true]

end

/-- COMPLETE of a valid record (R149). -/
theorem complete_valid (c : Config) {fr : FrameRecord} (h : recordValid c fr = true) (s : State) :
    complete c fr s = { dispatchFrame c fr s with stepOut := s.stepOut ++ [.feed true true] } := by
  rw [complete, if_pos h, State.pushOut, dispatchFrame_stepOut]

/-- COMPLETE of an invalid record (R149, R213): the notification and the step output alone. -/
theorem complete_invalid (c : Config) {k f : Byte} {p chk : Half} (h : recordValid c ⟨k, f, p, some chk⟩ ≠ true)
    (s : State) :
    complete c ⟨k, f, p, some chk⟩ s =
      { s with sinkLog := s.sinkLog ++ [.invalid k f p chk], stepOut := s.stepOut ++ [.feed true false] } := by
  rw [complete, if_neg h, dispatchInvalid_full]
  rfl

/-- What a dispatch leaves beside the step outputs does not depend on those before it (R45). -/
theorem dispatchFrame_outputs (c : Config) (s : State) (fr : FrameRecord) (before after : List StepOutput) :
    { dispatchFrame c fr { s with stepOut := before } with stepOut := after } =
      { dispatchFrame c fr s with stepOut := after } := by
  rw [dispatchFrame_withStepOut]

/-! ## One FEED instruction -/

theorem exec_feed (b : Byte) (s : State) : exec (.feed b) s = .next (feedByte hardware b s.clearOut) := rfl

/-- Settles O21: the template positions, and the mismatch at offset 9. -/
theorem feedAtTemplatePositions : Obligations.FeedAtTemplatePositions := by
  intro b s
  simp only [exec_feed]
  refine ⟨fun h => ?_, fun h => ?_, fun h => ?_, fun h hb => ?_⟩
  · rw [feedByte_at0 (s := s.clearOut) _ _ h]
    rfl
  · rw [feedByte_at1 (s := s.clearOut) _ _ h, feedTemplate_eq]
    simp only [State.clearOut_rxCur, h]
    rfl
  · rw [feedByte_at2 (s := s.clearOut) _ _ h, feedTemplate_eq]
    simp only [State.clearOut_rxCur, h]
    rfl
  · rw [feedByte_at9_of_ne (s := s.clearOut) _ _ h hb]
    rfl

/-- Settles O22: each stored position, and offset 7 on a byte other than END. -/
theorem feedAtStoredPositions : Obligations.FeedAtStoredPositions := by
  intro b s
  have hstored : ∀ cur ∈ [RxCursor.at3, .at4, .at5, .at6, .at8], s.rxCur = cur →
      exec (.feed b) s = .next
        { s with rxCur := nextCursor cur, rxBuf := storeCell b s.rxBuf cur, stepOut := [.feed false false] } := by
    rintro cur hcur rfl
    rw [exec_feed, feedByte_stored (s := s.clearOut) _ _ hcur]
    rfl
  refine ⟨hstored .at3 (by decide), hstored .at4 (by decide), hstored .at5 (by decide), hstored .at6 (by decide),
    fun h hb => ?_, hstored .at8 (by decide)⟩
  rw [exec_feed, feedByte_at7_of_ne (s := s.clearOut) _ _ h hb, feedStored_eq]
  simp only [State.clearOut_rxCur, h]
  rfl

/-- Settles O23: END at offset 7, and at offset 9 by the sum of R148. -/
theorem feedOfEndCompletesAFrame : Obligations.FeedOfEndCompletesAFrame := by
  intro s
  dsimp only
  have hfeed : exec (.feed 0xEF) s = .next (feedByte hardware endByte s.clearOut) := exec_feed endByte s
  have hvalid : recordValid hardware (fullRecord s.rxBuf) = true ↔
      (s.rxBuf.kind.toNat + s.rxBuf.fb.toNat + s.rxBuf.paramHi.toNat + s.rxBuf.paramLo.toNat +
        (s.rxBuf.chkHi ++ s.rxBuf.chkLo).toNat) % 2 ^ 16 = 0 := by
    simp only [fullRecord, joinBytes, recordValid_hardware, hiByte_append, loByte_append]
  refine ⟨fun h => ?_, fun h ht => ?_, fun h ht => ?_⟩
  · rw [hfeed, feedByte_at7_end (s := s.clearOut) _ h, complete_valid _ rfl]
    rfl
  · rw [hfeed, feedByte_at9_end (s := s.clearOut) _ h, State.clearOut_rxBuf, complete_valid _ (hvalid.2 ht)]
    rfl
  · rw [hfeed, feedByte_at9_end (s := s.clearOut) _ h, State.clearOut_rxBuf, fullRecord,
      complete_invalid _ (mt hvalid.1 ht)]
    rfl

/-! ## A whole frame to an open parser -/

theorem parserOpen_iff (s : State) : parserOpen s = true ↔ s.rxCur = .at0 ∨ s.rxCur = .at1 ∨ s.rxCur = .at2 := by
  simp only [parserOpen, Bool.or_eq_true, decide_eq_true_eq, or_assoc]

section
variable (c : Config) {s : State} (k f : Byte) (p chk : Half)

/-- A full frame with the checksum of its bytes is dispatched as one valid frame (R150, R153). -/
theorem feedBytes_frame_valid (hs : parserOpen s = true) (hchk : chk = checksum c k f (hiByte p) (loByte p)) :
    feedBytes c (frameBytes k f p (.full chk)) s.clearOut =
      { dispatchFrame c ⟨k, f, p, some chk⟩ (frameTaken true k f p (.full chk) s) with
        stepOut := List.replicate 9 (.feed false false) ++ [.feed true true] } := by
  have hend : hiByte chk ≠ endByte := hchk ▸ hiByte_checksum_ne_end c k f _ _
  have hfull := feedBytes_full c ((parserOpen_iff s).1 hs) k f (hiByte p) (loByte p) (hiByte chk) (loByte chk) hend
  rw [hiByte_append_loByte, hiByte_append_loByte, complete_valid c ((recordValid_full_iff ..).2 hchk)] at hfull
  exact hfull.trans (dispatchFrame_outputs c (frameTaken true k f p (.full chk) s) _ _ _)

/-- A full frame with any other checksum, chk_hi not END, is reported as INVALID and nothing else (R148, R213). -/
theorem feedBytes_frame_invalid (hs : parserOpen s = true) (hend : hiByte chk ≠ endByte)
    (hchk : chk ≠ checksum c k f (hiByte p) (loByte p)) :
    feedBytes c (frameBytes k f p (.full chk)) s.clearOut =
      { frameTaken false k f p (.full chk) s with sinkLog := s.sinkLog ++ [.invalid k f p chk] } := by
  have hfull := feedBytes_full c ((parserOpen_iff s).1 hs) k f (hiByte p) (loByte p) (hiByte chk) (loByte chk) hend
  rw [hiByte_append_loByte, hiByte_append_loByte, complete_invalid c (mt (recordValid_full_iff ..).1 hchk)] at hfull
  exact hfull

end

/-- Settles O27: ENCODE writes the checksum of its own bytes. -/
theorem encodedFrameIsReceivedWhole : Obligations.EncodedFrameIsReceivedWhole := fun c kind param fb _ hs =>
  feedBytes_frame_valid c kind (fbByte fb) param _ hs rfl

/-- Settles O36. -/
theorem messageWithAWrongChecksumIsInvalid : Obligations.MessageWithAWrongChecksumIsInvalid := by
  intro i k fb param chk s hi hs hend hsum
  have hchk : chk ≠ checksum hardware (hardware.kind k) fb (hiByte param) (loByte param) := fun h =>
    hsum ((recordValid_hardware ..).1 ((recordValid_full_iff ..).2 h))
  rw [exec_message hi, receiveFrame, feedBytes_frame_invalid hardware _ fb param chk hs hend hchk]

/-- Settles O28: one changed byte leaves sum or checksum as it was and moves the other. -/
theorem corruptedFrameIsInvalid : Obligations.CorruptedFrameIsInvalid := by
  intro c k f ph pl k' f' ph' pl' ch' cl' s hs chk hcorrupt
  have hchkEnd : hiByte chk ≠ endByte := hiByte_checksum_ne_end c k f ph pl
  obtain ⟨hend, hchk⟩ : ch' ≠ endByte ∧ ch' ++ cl' ≠ checksum c k' f' ph' pl' := by
    rcases hcorrupt with ⟨hne, rfl, rfl, rfl, rfl, rfl⟩ | ⟨rfl, hne, rfl, rfl, rfl, rfl⟩ |
      ⟨rfl, rfl, hne, rfl, rfl, rfl⟩ | ⟨rfl, rfl, rfl, hne, rfl, rfl⟩ | ⟨rfl, rfl, rfl, rfl, hne, hend, rfl⟩ |
      ⟨rfl, rfl, rfl, rfl, rfl, hne⟩
    case inr.inr.inr.inr.inl => exact ⟨hend, fun h => hne (by rw [← hiByte_append ch', h])⟩
    case inr.inr.inr.inr.inr => exact ⟨hchkEnd, fun h => hne (by rw [← loByte_append _ cl', h])⟩
    all_goals
      refine ⟨hchkEnd, ?_⟩
      simpa [chk, checksum_eq_iff, BitVec.toNat_inj] using hne.symm
  have hframe := feedBytes_frame_invalid c k' f' (ph' ++ pl') (ch' ++ cl') hs
  simp only [hiByte_append, loByte_append] at hframe
  rw [← hframe hend hchk]
  simp [frameBytes]

/-! ## END at offset 7 of a full frame -/

/-- Any byte and then END complete nothing between frames, and leave the cursor at 0. -/
theorem feedBytes_byte_end (c : Config) {s : State} (h : s.rxCur = .at0) (b : Byte) :
    feedBytes c [b, endByte] s = { s with stepOut := s.stepOut ++ List.replicate 2 (.feed false false) } := by
  have hs : { s with rxCur := .at0 } = s := by rw [← h]
  rw [feedBytes, feedByte_at0 c b h]
  conv_rhs => rw [← hs]
  by_cases hb : b = startByte
  · rw [if_pos hb, feedBytes, feedByte_at1 c _ rfl, feedTemplate_eq, List.append_assoc]
    rfl
  · rw [if_neg hb, feedBytes, feedByte_at0 c _ rfl, List.append_assoc]
    rfl

/-- Settles O29. -/
theorem earlyEndIsAShortFrameAndNoise : Obligations.EarlyEndIsAShortFrameAndNoise := by
  intro c k f cl param s hs
  rw [feedBytes_short c ((parserOpen_iff s).1 hs), complete_valid c rfl,
    feedBytes_byte_end c (dispatchFrame_rxCur ..), hiByte_append_loByte]
  exact dispatchFrame_outputs c (frameTaken true k f param .short s) _ _ _

/-! ## A frame after a noise header -/

theorem cursorCode_nextCursor_le (cur : RxCursor) :
    (cursorCode (nextCursor cur)).toNat ≤ (cursorCode cur).toNat + 1 := by cases cur <;> decide

/-- Below offset 7 no byte completes a frame (R142, R144). -/
theorem feedByte_template_or_stored (c : Config) {s : State} (h : (cursorCode s.rxCur).toNat < 7) (b : Byte) :
    (∃ x, feedByte c b s = feedTemplate x b s) ∨ feedByte c b s = feedStored b s := by
  cases hcur : s.rxCur with
  | at0 => exact .inl ⟨startByte, by simp only [feedByte, hcur]⟩
  | at1 => exact .inl ⟨_, feedByte_at1 c b hcur⟩
  | at2 => exact .inl ⟨_, feedByte_at2 c b hcur⟩
  | at3 | at4 | at5 | at6 => exact .inr (feedByte_stored c b (by simp [hcur]))
  | at7 | at8 | at9 => exact absurd (hcur ▸ h) (by decide)

/-- Below offset 7 a FEED touches the parser alone and moves the cursor on by at most one. -/
theorem feedByte_below_seven (c : Config) {s : State} (h : (cursorCode s.rxCur).toNat < 7) (b : Byte) :
    ∃ cur buf, feedByte c b s =
        { s with rxCur := cur, rxBuf := buf, stepOut := s.stepOut ++ [.feed false false] } ∧
      (cursorCode cur).toNat ≤ (cursorCode s.rxCur).toNat + 1 := by
  rcases feedByte_template_or_stored c h b with ⟨x, hfeed⟩ | hfeed
  · refine ⟨_, _, hfeed.trans (feedTemplate_eq x b s), ?_⟩
    split_ifs
    · exact cursorCode_nextCursor_le _
    · exact Nat.le_add_left 1 _
    · exact Nat.zero_le _
  · exact ⟨_, _, hfeed, cursorCode_nextCursor_le _⟩

/-- Bytes too few to pass offset 7 complete nothing. -/
theorem feedBytes_below_seven (c : Config) (bs : List Byte) {s : State}
    (h : (cursorCode s.rxCur).toNat + bs.length ≤ 7) :
    ∃ cur buf, feedBytes c bs s =
      { s with rxCur := cur, rxBuf := buf, stepOut := s.stepOut ++ List.replicate bs.length (.feed false false) } := by
  induction bs generalizing s with
  | nil => exact ⟨s.rxCur, s.rxBuf, by simp [feedBytes]⟩
  | cons b bs ih =>
    rw [List.length_cons] at h
    obtain ⟨cur, buf, hfeed, hcur⟩ := feedByte_below_seven c (s := s) (by omega) b
    obtain ⟨cur', buf', hrest⟩ := ih (s := feedByte c b s) (by rw [hfeed]; dsimp only; omega)
    exact ⟨cur', buf', by rw [feedBytes, hrest, hfeed, List.append_assoc]; rfl⟩

/-- From offset 3, six bytes fill the cells and a seventh resynchronises, unless END completes a frame at offset 7 or 9
(R143 to R146, R449). -/
theorem feedBytes_after_header (c : Config) {s : State} (h : s.rxCur = .at3) (b3 b4 b5 b6 b7 b8 b9 : Byte)
    (h7 : b7 ≠ endByte) (h9 : b9 ≠ endByte) :
    feedBytes c [b3, b4, b5, b6, b7, b8, b9] s.clearOut =
      { s with
        rxCur := if b9 = startByte then .at1 else .at0, rxBuf := ⟨b3, b4, b5, b6, b7, b8⟩,
        stepOut := List.replicate 7 (.feed false false) } := by
  simp only [feedBytes]
  rw [feedByte_stored c b3 (by simp [h]), feedStored_eq, State.clearOut_rxCur, h]
  rw [feedByte_stored c b4 (by simp [nextCursor]), feedStored_eq]
  rw [feedByte_stored c b5 (by simp [nextCursor]), feedStored_eq]
  rw [feedByte_stored c b6 (by simp [nextCursor]), feedStored_eq]
  rw [feedByte_at7_of_ne c b7 rfl h7, feedStored_eq]
  rw [feedByte_stored c b8 (by simp [nextCursor]), feedStored_eq]
  rw [feedByte_at9_of_ne c b9 rfl h9]
  rfl

/-- Settles O30: after seven bytes the cursor is at 0 or 1, too far from offset 7 for the last three. -/
theorem headerNoiseSwallowsAFrame : Obligations.HeaderNoiseSwallowsAFrame := by
  intro c kind param fb s hs hlo
  refine ⟨_, rfl, ?_⟩
  have hhead : feedBytes c ((encodeFrame c kind param fb).take 7) s.clearOut = _ :=
    feedBytes_after_header c hs startByte verByte lenByte kind (fbByte fb) (hiByte param) (loByte param)
      (fbByte_ne_end fb) hlo
  have hcur : (cursorCode (if loByte param = startByte then .at1 else .at0)).toNat + 3 ≤ 7 := by
    split_ifs <;> decide
  obtain ⟨cur, buf, hrest⟩ := feedBytes_below_seven c ((encodeFrame c kind param fb).drop 7)
    (s := feedBytes c ((encodeFrame c kind param fb).take 7) s.clearOut) (by rw [hhead]; exact hcur)
  rw [← List.take_append_drop 7 (encodeFrame c kind param fb), feedBytes_append, hrest, hhead]
  rfl

end Sys2Proof.Machine
end

section
/-! The timeout arbiter (R180 to R190): the window of a deadline, TICK with and without an expiry, what an accepted
message does to the timer, and SEND. -/

namespace Sys2Proof.Machine

/-! ## The window of a deadline -/

/-- `d` units after `x` on a clock of `M` values, where the `H` values from `d` on do not wrap. -/
theorem sub_emod_lt_iff {x d H M : Int} (hd : 0 ≤ d) (hH : 0 < H) (hM : d + H ≤ M) :
    (x - d) % M < H ↔ d ≤ x % M ∧ x % M ≤ d + H - 1 := by
  have hnonneg : 0 ≤ x % M := Int.emod_nonneg x (by omega)
  have hlt : x % M < M := Int.emod_lt_of_pos x (by omega)
  rw [← Int.emod_sub_emod]
  rcases le_or_gt d (x % M) with hle | hgt
  · rw [Int.emod_eq_of_lt (by omega) (by omega)]
    omega
  · rw [← Int.add_emod_right, Int.emod_eq_of_lt (by omega) (by omega)]
    omega

/-- A duration below half the clock, and the window that follows it, fit the clock (R7, R446). -/
theorem add_window_le {w d : Nat} (h : d < 2 ^ (w - 1)) : d + 2 ^ (w - 1) ≤ 2 ^ w := by
  cases w with
  | zero => exact h
  | succ n =>
    rw [Nat.add_sub_cancel] at h ⊢
    rw [pow_succ]
    omega

section
variable (c : Config)

/-- The window of R190 in the integers. -/
theorem elapsed_timeAfter_lt_iff (t t0 : Nat) {d : Nat} (h : d < 2 ^ (c.clkW - 1)) :
    elapsed c t (timeAfter c t0 d) < 2 ^ (c.clkW - 1) ↔
      (d : Int) ≤ ((t : Int) - t0) % 2 ^ c.clkW ∧
        ((t : Int) - t0) % 2 ^ c.clkW ≤ d + 2 ^ (c.clkW - 1) - 1 := by
  have hfit : (d : Int) + 2 ^ (c.clkW - 1) ≤ 2 ^ c.clkW := by exact_mod_cast add_window_le h
  rw [← sub_emod_lt_iff (Int.natCast_nonneg d) (by positivity) hfit, ← elapsed_timeAfter]
  exact_mod_cast Iff.rfl

/-- A disarmed timer never expires (R181). -/
theorem expired_of_disarmed {s : State} (h : s.tmrArmed = false) : s.expired c = false := by
  rw [State.expired, h, Bool.false_and]

/-- A deadline armed at this very `now` is not due yet (R180, R190). -/
theorem expired_of_armed_now {s : State} {d : Nat} (hpos : 0 < d) (hlt : d < 2 ^ (c.clkW - 1))
    (hs : s.tmrDeadline = timeAfter c s.now d) : s.expired c = false := by
  rw [Bool.eq_false_iff, Ne, expired_iff, hs, elapsed_timeAfter_lt_iff c _ _ hlt, sub_self, Int.zero_emod]
  omega

/-- An armed timer expires in the window of `tickInWindow` (R190). -/
theorem expired_of_tickInWindow {s : State} (harm : s.tmrArmed = true) (hwin : tickInWindow c s.now s = true) :
    s.expired c = true :=
  (expired_iff c s).2 ⟨harm, of_decide_eq_true hwin⟩

end

/-- Settles O13: the armed deadline is `timeAfter`, so its window is that of `elapsed_timeAfter_lt_iff`. -/
theorem expiryWindowOfADeadline : Obligations.ExpiryWindowOfADeadline := by
  refine ⟨fun c s t0 t d hd => ?_, fun c s => expired_of_disarmed c⟩
  dsimp only
  rw [← elapsed_timeAfter_lt_iff c t t0 hd, expired_iff]
  exact and_iff_right rfl

/-! ## TICK -/

section
variable (c : Config) {s : State}

/-- DISPATCH_TIMEOUT in steady state: the sink alone (R214). -/
theorem dispatchTimeout_idle (h : s.fsmState = .none) : dispatchTimeout c s = s.sinkEmit (.error .timedOut) := by
  rw [dispatchTimeout, if_pos h]

/-- DISPATCH_TIMEOUT during bring-up: the FSM, then the sink (R214). -/
theorem dispatchTimeout_active (h : s.fsmState ≠ .none) :
    dispatchTimeout c s = (fsmStep c .timeout s).sinkEmit (.error .timedOut) := by
  rw [dispatchTimeout, if_neg h]

/-! The On error/timeout column of the transition table, for a TIMEOUT (R217, R254 to R260). -/

theorem fsmStep_timeout_resettingHardware (h : s.fsmState = .resettingHardware) :
    fsmStep c .timeout s = finish c .failed s := by
  rw [fsmStep, h]
  rfl

theorem fsmStep_timeout_gettingVersion (h : s.fsmState = .gettingVersion) :
    fsmStep c .timeout s = goto c .checkingUsbFileCount s := by
  rw [fsmStep, h]
  rfl

theorem fsmStep_timeout_checkingUsb (h : s.fsmState = .checkingUsbFileCount) :
    fsmStep c .timeout s = goto c .checkingSdFileCount s := by
  rw [fsmStep, h]
  rfl

theorem fsmStep_timeout_checkingSd (h : s.fsmState = .checkingSdFileCount) :
    fsmStep c .timeout s = finish c .noSource s := by
  rw [fsmStep, h]
  rfl

theorem fsmStep_timeout_ignored
    (h : s.fsmState = .selectingUsb ∨ s.fsmState = .selectingSd ∨ s.fsmState = .checkingFolderCount) :
    fsmStep c .timeout s = s := by
  rcases h with h | h | h <;> rw [fsmStep, h] <;> rfl

/-- A TIMEOUT that ends bring-up: the two notifications in the order of R217. -/
theorem dispatchTimeout_of_finish {r : EndResult} (h : s.fsmState ≠ .none)
    (hstep : fsmStep c .timeout s = finish c r s) :
    dispatchTimeout c s =
      { s with
        fsmState := .none, result := endResultValue r, tmrArmed := false,
        sinkLog := s.sinkLog ++ [.bringupEnd r, .error .timedOut] } := by
  rw [dispatchTimeout_active c h, hstep, finish_eq c s r h, State.sinkEmit, List.append_assoc]
  rfl

/-- A TIMEOUT that moves bring-up on: the entered state's frame is sent and its deadline armed (R251). -/
theorem dispatchTimeout_of_goto {x : FsmState} {k : Byte} {p : Half} {fb : Bool} {d : Nat} (h : s.fsmState ≠ .none)
    (hstep : fsmStep c .timeout s = goto c x s) (hx : x ≠ s.fsmState) (he : entryFrame c x = some (k, p, fb, d)) :
    dispatchTimeout c s =
      { s with
        fsmState := x, txLog := s.txLog ++ encodeFrame c k p fb, tmrArmed := true,
        tmrDeadline := timeAfter c s.now d, sinkLog := s.sinkLog ++ [.error .timedOut] } := by
  rw [dispatchTimeout_active c h, hstep, goto_entry c s x hx he]
  rfl

/-- A TIMEOUT in GETTING_VERSION (R255). -/
theorem dispatchTimeout_gettingVersion (h : s.fsmState = .gettingVersion) :
    dispatchTimeout c s =
      { s with
        fsmState := .checkingUsbFileCount, txLog := s.txLog ++ encodeFrame c (c.kind .qFileCountUsb) 0 false,
        tmrArmed := true, tmrDeadline := timeAfter c s.now c.tDefault, sinkLog := s.sinkLog ++ [.error .timedOut] } :=
  dispatchTimeout_of_goto c (by simp [h]) (fsmStep_timeout_gettingVersion c h) (by simp [h]) rfl

/-- A TIMEOUT in CHECKING_USB_FILE_COUNT (R256). -/
theorem dispatchTimeout_checkingUsb (h : s.fsmState = .checkingUsbFileCount) :
    dispatchTimeout c s =
      { s with
        fsmState := .checkingSdFileCount, txLog := s.txLog ++ encodeFrame c (c.kind .qFileCountSd) 0 false,
        tmrArmed := true, tmrDeadline := timeAfter c s.now c.tDefault, sinkLog := s.sinkLog ++ [.error .timedOut] } :=
  dispatchTimeout_of_goto c (by simp [h]) (fsmStep_timeout_checkingUsb c h) (by simp [h]) rfl

/-- TICK is the level test, and on an expiry CANCEL and then the dispatch (R185, R186). -/
theorem exec_tick (s : State) :
    exec .tick s = .next (if s.expired hardware then (dispatchTimeout hardware s.clearOut.cancel).pushOut (.tick true)
      else s.clearOut.pushOut (.tick false)) :=
  congrArg Host.Outcome.next (tickTimer_hardware s.clearOut)

theorem exec_tick_of_expired (h : s.expired hardware = true) :
    exec .tick s = .next ((dispatchTimeout hardware s.clearOut.cancel).pushOut (.tick true)) := by
  rw [exec_tick, if_pos h]

theorem exec_tick_of_not_expired (h : s.expired hardware = false) :
    exec .tick s = .next { s with stepOut := [.tick false] } := by
  rw [exec_tick, if_neg (ne_true_of_eq_false h)]
  rfl

end

/-- Settles O15: outside the window, or disarmed, the level test fails. -/
theorem tickWithoutExpiryDoesNothing : Obligations.TickWithoutExpiryDoesNothing := by
  rintro s (harm | hlate)
  · exact exec_tick_of_not_expired (expired_of_disarmed hardware harm)
  · refine exec_tick_of_not_expired (Bool.eq_false_iff.2 fun hexp => ?_)
    have hwin : elapsed hardware s.now s.tmrDeadline < 2 ^ 31 := ((expired_iff hardware s).1 hexp).2
    have hdiff : (elapsed hardware s.now s.tmrDeadline : Int) = ((s.now : Int) - s.tmrDeadline) % 2 ^ 32 :=
      elapsed_emod hardware _ _
    omega

/-- Settles O16. -/
theorem tickExpiryInSteadyState : Obligations.TickExpiryInSteadyState := by
  intro s hidle harm hwin
  rw [exec_tick_of_expired (expired_of_tickInWindow hardware harm hwin),
    dispatchTimeout_idle hardware (s := s.clearOut.cancel) hidle]
  rfl

/-- Settles O17: each state's TIMEOUT, dispatched from the disarmed state. -/
theorem tickExpiryDuringBringup : Obligations.TickExpiryDuringBringup := by
  intro s harm hwin
  rw [exec_tick_of_expired (expired_of_tickInWindow hardware harm hwin)]
  refine ⟨fun h => ?_, fun h => ?_, fun h => ?_, fun h => ?_, fun h => ?_⟩
  · rw [dispatchTimeout_of_finish hardware (s := s.clearOut.cancel) (by simp [h])
      (fsmStep_timeout_resettingHardware hardware h)]
    rfl
  · rw [dispatchTimeout_gettingVersion hardware (s := s.clearOut.cancel) h, harm]
    rfl
  · rw [dispatchTimeout_checkingUsb hardware (s := s.clearOut.cancel) h, harm]
    rfl
  · rw [dispatchTimeout_of_finish hardware (s := s.clearOut.cancel) (by simp [h])
      (fsmStep_timeout_checkingSd hardware h)]
    rfl
  · have hact : s.fsmState ≠ .none := by rcases h with h | h | h <;> simp [h]
    rw [dispatchTimeout_active hardware (s := s.clearOut.cancel) hact,
      fsmStep_timeout_ignored hardware (s := s.clearOut.cancel) h]
    rfl

/-- Settles O18: the deadline that the late CANCEL takes away is the one of the state just entered. -/
theorem disarmAfterDispatchLosesTheNewDeadline : Obligations.DisarmAfterDispatchLosesTheNewDeadline := by
  intro c s _ hpoint hexp
  rw [tickTimer, if_pos hexp, hpoint]
  dsimp only
  refine ⟨fun h => ?_, fun h => ?_⟩
  · rw [dispatchTimeout_gettingVersion c h]
    exact ⟨rfl, rfl, rfl⟩
  · rw [dispatchTimeout_checkingUsb c h]
    exact ⟨rfl, rfl, rfl⟩

/-! ## Accepted messages and the timer -/

/-- The checksum field of the record of a frame with this tail (R147, R148). -/
def tailChk : FrameTail → Option Half
  | .short => none
  | .full chk => some chk

/-- A message with an accepted tail, to an open parser, is dispatched as one valid frame (R150, R152). -/
theorem receiveFrame_accepted (c : Config) (k : Kind) (fb : Byte) (param : Half) (tail : FrameTail) {s : State}
    (hs : parserOpen s = true) (ht : tailAccepted c (c.kind k) fb param tail = true) :
    receiveFrame c k fb param tail s =
      dispatchFrame c ⟨c.kind k, fb, param, tailChk tail⟩ (frameTaken true (c.kind k) fb param tail s) := by
  cases tail with
  | short =>
    have hshort := feedBytes_short c ((parserOpen_iff s).1 hs) (c.kind k) fb (hiByte param) (loByte param) []
    rw [hiByte_append_loByte, complete_valid c rfl] at hshort
    exact hshort.trans (dispatchFrame_withStepOut c _ _ (frameOutputs true .short)).symm
  | full chk =>
    obtain ⟨-, hsum⟩ := (Bool.and_eq_true _ _).mp ht
    have hchk := (checksumSum_add_eq_zero_iff c _ _ _ _ _).1 (eq_of_beq hsum)
    rw [receiveFrame, feedBytes_frame_valid c _ fb param chk hs hchk]
    exact (dispatchFrame_withStepOut c _ _ (frameOutputs true (.full chk))).symm

section
variable (c : Config)

/-- REPLY_KINDS by code (R187). -/
theorem isReplyKind_iff (b : Byte) : isReplyKind c b = true ↔ ∃ k ∈ c.replyKinds, c.kind k = b := by
  simp [isReplyKind]

/-- REPLY_KINDS by symbolic kind, where KIND is injective (R7, R187). -/
theorem isReplyKind_kind (hc : c.Valid) (k : Kind) : isReplyKind c (c.kind k) = decide (k ∈ c.replyKinds) := by
  rw [Bool.eq_iff_iff, isReplyKind_iff, decide_eq_true_eq]
  exact ⟨fun ⟨k', hmem, hcode⟩ => hc.kind_injective k' k hcode ▸ hmem, fun hmem => ⟨k, hmem, rfl⟩⟩

/-- What NOTIFY_WIRE emits for the code of a symbolic kind (R215). -/
theorem wireNotifications_kind (hc : c.Valid) (k : Kind) (param : Half) :
    wireNotifications c (c.kind k) param = kindNotifications param k := by
  rw [wireNotifications, kindOf?_kind hc]

end

/-- A version reply takes GETTING_VERSION on to the count of USB files (R255). -/
theorem fsmStep_versionReply (c : Config) (fb : Byte) (param : Half) {s : State} (h : s.fsmState = .gettingVersion) :
    fsmStep c (.wire (c.kind .qFirmwareVersion) fb param) s = goto c .checkingUsbFileCount s := by
  simp [fsmStep, h, handleGettingVersion, isWireOf]

section
variable {i : Instr} {k : Kind} {fb : Byte} {param : Half} {tail : FrameTail} {s : State}

/-- An accepted message, as one instruction of this hardware, is its dispatch (log 1). -/
theorem exec_message_accepted (hi : msgFrame? i = some ⟨k, fb, param, tail⟩) (hs : parserOpen s = true)
    (ht : tailAccepted hardware (hardware.kind k) fb param tail = true) :
    exec i s = .next (dispatchFrame hardware ⟨hardware.kind k, fb, param, tailChk tail⟩
      (frameTaken true (hardware.kind k) fb param tail s)) := by
  rw [exec_message hi, receiveFrame_accepted hardware k fb param tail hs ht]

/-- An accepted message in steady state: its notifications, and a disarmed timer if it is a reply (R187, R212). -/
theorem exec_message_idle (hi : msgFrame? i = some ⟨k, fb, param, tail⟩) (hs : parserOpen s = true)
    (hidle : s.fsmState = .none) (ht : tailAccepted hardware (hardware.kind k) fb param tail = true) :
    exec i s = .next
      { frameTaken true (hardware.kind k) fb param tail s with
        tmrArmed := !decide (k ∈ replyKindList) && s.tmrArmed
        sinkLog := s.sinkLog ++ kindNotifications param k } := by
  rw [exec_message_accepted hi hs ht, dispatchFrame_idle hardware (frameTaken _ _ _ _ _ _) _ hidle,
    isReplyKind_kind hardware hardware_valid, wireNotifications_kind hardware hardware_valid]
  rfl

end

/-- Settles O25: membership in the list of R187, one code at a time. -/
theorem replyKindsAreAckErrorAndTheQueries : Obligations.ReplyKindsAreAckErrorAndTheQueries := by
  intro b
  rw [isReplyKind_iff]
  simp [show hardware.replyKinds = replyKindList from rfl, replyKindList, eq_comm (b := b)]

/-- Settles O33: INIT_COMPLETE is no reply, ACK and ERROR are. -/
theorem initCompleteAckAndErrorInSteadyState : Obligations.InitCompleteAckAndErrorInSteadyState := by
  intro fb param tail s hs hidle
  refine ⟨fun ht => ?_, fun ht => ?_, fun ht => ?_⟩
  · exact exec_message_idle (i := .msgInitComplete fb param tail) rfl hs hidle ht
  · exact exec_message_idle (i := .msgAck fb param tail) rfl hs hidle ht
  · exact exec_message_idle (i := .msgError fb param tail) rfl hs hidle ht

/-- Settles O34: each row is a message of a reply kind with that kind's notifications. -/
theorem queryRepliesInSteadyState : Obligations.QueryRepliesInSteadyState := by
  intro fb param tail s hs hidle m hm ht
  obtain ⟨hframe, hreply, hnotes⟩ : msgFrame? m.1 = some ⟨m.2.1, fb, param, tail⟩ ∧ m.2.1 ∈ replyKindList ∧
      m.2.2 = kindNotifications param m.2.1 := by
    fin_cases hm <;> refine ⟨rfl, ?_, rfl⟩ <;> simp [replyKindList]
  rw [exec_message_idle hframe hs hidle ht, hnotes, decide_eq_true hreply]
  rfl

/-- Settles O48: the reply arms the entered state's deadline at this `now`, so the TICK finds it not due. -/
theorem replyBeforeTickAtTheSameNow : Obligations.ReplyBeforeTickAtTheSameNow := by
  intro fb param tail s u v hs hver ht hu hv
  have htaken : (frameTaken true (hardware.kind .qFirmwareVersion) fb param tail s).fsmState = .gettingVersion := hver
  rw [exec_message_accepted (i := .msgQFirmwareVersion fb param tail) rfl hs ht,
    dispatchFrame_active hardware _ _ (by simp [htaken]), fsmStep_versionReply hardware fb param htaken,
    goto_entry hardware _ .checkingUsbFileCount (by simp [htaken]) rfl] at hu
  obtain rfl := Host.Outcome.next.inj hu
  rw [exec_tick_of_not_expired (expired_of_armed_now hardware (d := hardware.tDefault) (by decide)
    hardware_valid.tDefault_lt rfl)] at hv
  obtain rfl := Host.Outcome.next.inj hv
  exact ⟨rfl, rfl, rfl, rfl⟩

/-! ## SEND -/

/-- Settles O11: SEND is TX_FRAME with T_DEFAULT. -/
theorem sendTransmitsAndArms : Obligations.SendTransmitsAndArms := by
  intro fb kind param s
  refine ⟨rfl, fun t ht => ?_⟩
  obtain rfl := Host.Outcome.next.inj ht
  rfl

end Sys2Proof.Machine
end

section
/-! The event path (R212 to R216): DISPATCH_FRAME and NOTIFY_WIRE, a message while bring-up is active, and the kinds
that neither the FSM nor the timer reacts to. -/

namespace Sys2Proof.Machine

/-- Settles O24: the steady-state and the bring-up form of DISPATCH_FRAME. -/
theorem dispatchOfAValidatedFrame : Obligations.DispatchOfAValidatedFrame := by
  intro c fr s
  refine ⟨fun hidle hreply => ?_, fun hidle hother => ?_, fun hactive => dispatchFrame_active c s fr hactive⟩
  · rw [dispatchFrame_idle c s fr hidle, hreply]
    rfl
  · rw [dispatchFrame_idle c s fr hidle, hother]
    rfl

/-! ## The notification decoder -/

/-- NOTIFY_WIRE is silent on a code of no symbolic kind (R215). -/
theorem wireNotifications_unknown {c : Config} {b : Byte} (h : ∀ k, c.kind k ≠ b) (param : Half) :
    wireNotifications c b param = [] := by
  rw [wireNotifications, kindOf?_none h]

theorem State.sinkEmitAll_nil (s : State) : s.sinkEmitAll [] = s := by
  rw [State.sinkEmitAll, List.append_nil]

/-- Settles O26: what NOTIFY_WIRE emits is the row its kind lookup finds, or nothing. -/
theorem notificationDecoderLooksUpTheKind : Obligations.NotificationDecoderLooksUpTheKind := by
  intro c param s hc
  refine ⟨fun k => ?_, fun b hunknown => ?_⟩
  · rw [notifyWire, wireNotifications_kind c hc]
    rfl
  · rw [notifyWire, wireNotifications_unknown hunknown, State.sinkEmitAll_nil]

/-! ## Messages during bring-up -/

section
variable {i : Instr} {k : Kind} {fb : Byte} {param : Half} {tail : FrameTail} {s : State}

/-- An accepted message while bring-up is active: FSM_STEP on its wire event, then its notifications (R212). -/
theorem exec_message_active (hi : msgFrame? i = some ⟨k, fb, param, tail⟩) (hs : parserOpen s = true)
    (hactive : s.fsmState ≠ .none) (ht : tailAccepted hardware (hardware.kind k) fb param tail = true) :
    exec i s = .next ((fsmStep hardware (.wire (hardware.kind k) fb param)
      (frameTaken true (hardware.kind k) fb param tail s)).sinkEmitAll (kindNotifications param k)) := by
  rw [exec_message_accepted hi hs ht, dispatchFrame_active hardware (frameTaken _ _ _ _ _ _) _ hactive,
    wireNotifications_kind hardware hardware_valid]

end

/-- Settles O35. -/
theorem messagesDuringBringup : Obligations.MessagesDuringBringup :=
  fun _ _ _ hi hs hactive ht => exec_message_active hi hs hactive ht

/-! ## Kinds without an FSM effect -/

/-- The kinds some handler of R254 to R260 waits for, ERROR among them (R210): every other wire event is ignored in
every state (`fsmStep_wire_ignored`). -/
def fsmKinds : List Kind :=
  [.initComplete, .error, .qFirmwareVersion, .qFileCountUsb, .qFileCountSd, .ack, .qFolderCount]

section
variable {c : Config} {k : Kind}

/-- A wire event is matched by its symbolic kind, where KIND is injective (R7, R252). -/
theorem isWireOf_kind (hc : c.Valid) (k' : Kind) (fb : Byte) (param : Half) :
    isWireOf c k' (.wire (c.kind k) fb param) = decide (k = k') := by
  rw [isWireOf, Bool.eq_iff_iff, beq_iff_eq, decide_eq_true_eq]
  exact ⟨hc.kind_injective k k', congrArg c.kind⟩

/-- No handler reacts to a wire event of a kind outside `fsmKinds` (R252, R254 to R261). -/
theorem fsmStep_wire_ignored (hc : c.Valid) (hk : k ∉ fsmKinds) (fb : Byte) (param : Half) (s : State) :
    fsmStep c (.wire (c.kind k) fb param) s = s := by
  have hother : ∀ k' ∈ fsmKinds, isWireOf c k' (.wire (c.kind k) fb param) = false := fun k' hk' => by
    rw [isWireOf_kind hc, decide_eq_false_iff_not]
    exact fun h => hk (h ▸ hk')
  simp only [fsmKinds, List.forall_mem_cons] at hother
  obtain ⟨hinit, herror, hversion, husb, hsd, hack, hfolders, -⟩ := hother
  unfold fsmStep
  cases s.fsmState with
  | none => rfl
  | resettingHardware => simp [handleResettingHardware, isError, hinit, herror]
  | gettingVersion => simp [handleGettingVersion, isError, hversion, herror]
  | checkingUsbFileCount => simp [handleCheckingUsb, isError, husb, herror]
  | checkingSdFileCount => simp [handleCheckingSd, isError, hsd, herror]
  | selectingUsb => simp [handleSelectingUsb, hack]
  | selectingSd => simp [handleSelectingSd, hack]
  | checkingFolderCount => simp [handleCheckingFolder, hfolders]

end

section
variable {i : Instr} {k : Kind} {fb : Byte} {param : Half} {tail : FrameTail} {s : State}

/-- An accepted message of a kind that no handler waits for and that is no reply: its notifications are all, bring-up
active or not (R187, R212). -/
theorem exec_message_notifies (hi : msgFrame? i = some ⟨k, fb, param, tail⟩) (hs : parserOpen s = true)
    (hfsm : k ∉ fsmKinds) (hreply : k ∉ replyKindList)
    (ht : tailAccepted hardware (hardware.kind k) fb param tail = true) :
    exec i s = .next ((frameTaken true (hardware.kind k) fb param tail s).sinkEmitAll (kindNotifications param k)) := by
  by_cases hidle : s.fsmState = .none
  · rw [exec_message_idle hi hs hidle ht, decide_eq_false hreply]
    rfl
  · rw [exec_message_active hi hs hidle ht, fsmStep_wire_ignored hardware_valid hfsm]

end

/-- Settles O31: no command kind is waited for by a handler, is a reply, or has a notification. -/
theorem commandFramesHaveNoEffectBeyondTheParser : Obligations.CommandFramesHaveNoEffectBeyondTheParser := by
  intro fb param tail s hs m hm ht
  obtain ⟨hframe, hfsm, hreply, hsilent⟩ : msgFrame? m.1 = some ⟨m.2, fb, param, tail⟩ ∧ m.2 ∉ fsmKinds ∧
      m.2 ∉ replyKindList ∧ kindNotifications param m.2 = [] := by
    fin_cases hm <;> refine ⟨rfl, ?_, ?_, rfl⟩ <;> simp [fsmKinds, replyKindList]
  rw [exec_message_notifies hframe hs hfsm hreply ht, hsilent, State.sinkEmitAll_nil]

end Sys2Proof.Machine
end

section
/-! The bring-up FSM state by state (R251 to R262): goto, finish and RESET, and for each state what it does with ENTER,
with a wire event and with TIMEOUT. -/

namespace Sys2Proof.Machine

/-- Settles O12: RESET's restart of bring-up as one record update, in which the state it came from does not occur. -/
theorem resetRestartsBringup : Obligations.ResetRestartsBringup := by
  intro s
  rw [exec_eq_perform, perform, restartBringup_eq]
  rfl

/-- Settles O37: the three branches of goto; the entry action is FSM_STEP(ENTER) in the new state. -/
theorem gotoChangesStateAndEnters : Obligations.GotoChangesStateAndEnters := by
  intro c t s
  refine ⟨?_, ?_, fun hne hactive => ?_⟩
  · rintro rfl
    exact goto_self c s
  · rintro hne rfl
    exact goto_none c s hne.symm
  · rw [goto, if_neg hne, if_neg hactive, fsmStep_enter]
    rfl

/-- Settles O38. -/
theorem finishEndsBringup : Obligations.FinishEndsBringup := fun c r s => ⟨rfl, finish_eq c s r⟩

/-! ## The rows of the transition table -/

section
variable (c : Config) {s : State}

/-- NONE consumes no events (R261). -/
theorem fsmStep_none (h : s.fsmState = .none) (ev : FsmEvent) : fsmStep c ev s = s := by
  rw [fsmStep, h]

/-- ENTER sends the entry frame of the current state and arms its deadline (R254 to R260). -/
theorem fsmStep_enter_entry {k : Byte} {p : Half} {fb : Bool} {d : Nat}
    (he : entryFrame c s.fsmState = some (k, p, fb, d)) :
    fsmStep c .enter s =
      { s with txLog := s.txLog ++ encodeFrame c k p fb, tmrArmed := true, tmrDeadline := timeAfter c s.now d } := by
  rw [fsmStep_enter, enterState_eq, he]
  rfl

/-! A wire event in each state (R254 to R260), matched by its kind byte alone (R252). -/

section
variable (b fb : Byte) (p : Half)

theorem fsmStep_wire_resettingHardware (h : s.fsmState = .resettingHardware) :
    fsmStep c (.wire b fb p) s =
      if b = c.kind .initComplete then goto c .gettingVersion s
      else if b = c.kind .error then finish c .failed s
      else s := by
  simp [fsmStep, h, handleResettingHardware, isWireOf, isError]

theorem fsmStep_wire_gettingVersion (h : s.fsmState = .gettingVersion) :
    fsmStep c (.wire b fb p) s =
      if b = c.kind .qFirmwareVersion then goto c .checkingUsbFileCount s
      else if b = c.kind .error then goto c .checkingUsbFileCount s
      else s := by
  simp [fsmStep, h, handleGettingVersion, isWireOf, isError]

theorem fsmStep_wire_checkingUsb (h : s.fsmState = .checkingUsbFileCount) :
    fsmStep c (.wire b fb p) s =
      if b = c.kind .qFileCountUsb then
        if p = 0 then goto c .checkingSdFileCount s else goto c .selectingUsb (s.setFileCount p)
      else if b = c.kind .error then goto c .checkingSdFileCount s
      else s := by
  simp only [fsmStep, h, handleCheckingUsb, isWireOf, isError, eventParam, reduceCtorEq, if_false, beq_iff_eq]
  rfl

theorem fsmStep_wire_checkingSd (h : s.fsmState = .checkingSdFileCount) :
    fsmStep c (.wire b fb p) s =
      if b = c.kind .qFileCountSd then
        if p = 0 then finish c .noSource s else goto c .selectingSd (s.setFileCount p)
      else if b = c.kind .error then finish c .noSource s
      else s := by
  simp only [fsmStep, h, handleCheckingSd, isWireOf, isError, eventParam, reduceCtorEq, if_false, beq_iff_eq]
  rfl

theorem fsmStep_wire_checkingFolder (h : s.fsmState = .checkingFolderCount) :
    fsmStep c (.wire b fb p) s =
      if b = c.kind .qFolderCount then finish c .ready (s.setFolderCount p) else s := by
  simp [fsmStep, h, handleCheckingFolder, isWireOf, eventParam]

end

/-- The device that a selecting state selects (R258, R259): the two states differ in nothing else
(`fsmStep_wire_selecting`). -/
def selectedDevice : FsmState → Option Device
  | .selectingUsb => some .usb
  | .selectingSd => some .sd
  | _ => none

theorem eq_selecting_of_selectedDevice {x : FsmState} {d : Device} (h : selectedDevice x = some d) :
    x = .selectingUsb ∨ x = .selectingSd := by
  cases x <;> simp [selectedDevice] at h ⊢

theorem fsmStep_wire_selecting {d : Device} (h : selectedDevice s.fsmState = some d) (b fb : Byte) (p : Half) :
    fsmStep c (.wire b fb p) s =
      if b = c.kind .ack then goto c .checkingFolderCount (s.setSelDevice (c.device d)) else s := by
  rcases eq_selecting_of_selectedDevice h with hs | hs <;> rw [hs] at h <;> cases h
  · simp [fsmStep, hs, handleSelectingUsb, isWireOf]
  · simp [fsmStep, hs, handleSelectingSd, isWireOf]

/-- The ACK in a selecting state: the device is recorded and its folders are asked for (R258, R259). -/
theorem fsmStep_ack_selecting {d : Device} (h : selectedDevice s.fsmState = some d) (fb : Byte) (p : Half) :
    fsmStep c (.wire (c.kind .ack) fb p) s =
      { s with
        fsmState := .checkingFolderCount, txLog := s.txLog ++ encodeFrame c (c.kind .qFolderCount) 0 false,
        tmrArmed := true, tmrDeadline := timeAfter c s.now c.tDefault, selDevice := c.device d } := by
  have hne : FsmState.checkingFolderCount ≠ s.fsmState := by
    rcases eq_selecting_of_selectedDevice h with hs | hs <;> simp [hs]
  rw [fsmStep_wire_selecting c h, if_pos rfl, goto_entry c (s.setSelDevice (c.device d)) _ hne rfl]
  rfl

/-- Every other wire event is ignored in a selecting state, errors included (R258, R259). -/
theorem fsmStep_wire_selecting_ignored {d : Device} (h : selectedDevice s.fsmState = some d) {b : Byte}
    (hb : b ≠ c.kind .ack) (fb : Byte) (p : Half) : fsmStep c (.wire b fb p) s = s := by
  rw [fsmStep_wire_selecting c h, if_neg hb]

/-- An expiry in a state that ignores TIMEOUT disarms and is reported, at either DISARM_POINT (R185, R186, R214). -/
theorem tickTimer_timeout_ignored
    (h : s.fsmState = .selectingUsb ∨ s.fsmState = .selectingSd ∨ s.fsmState = .checkingFolderCount)
    (hexp : s.expired c = true) :
    tickTimer c s =
      { s with
        tmrArmed := false, sinkLog := s.sinkLog ++ [.error .timedOut], stepOut := s.stepOut ++ [.tick true] } := by
  have hactive : s.fsmState ≠ .none := by rcases h with h | h | h <;> simp [h]
  rw [tickTimer, if_pos hexp]
  cases c.disarmPoint <;> dsimp only
  · rw [dispatchTimeout_active c (s := s.cancel) hactive, fsmStep_timeout_ignored c (s := s.cancel) h]
    rfl
  · rw [dispatchTimeout_active c hactive, fsmStep_timeout_ignored c h]
    rfl

end

/-! ## The On error/timeout column -/

/-- Different kinds have different codes (R7). -/
theorem kind_ne_kind {c : Config} (hc : c.Valid) {k k' : Kind} (h : k ≠ k') : c.kind k ≠ c.kind k' :=
  mt (hc.kind_injective k k') h

/-- States 1 to 4 treat an ERROR of the module, whatever its code, as a TIMEOUT (R210, R254 to R257). -/
theorem fsmStep_error_eq_timeout {c : Config} (hc : c.Valid) {s : State} (h : probing s.fsmState) (fb : Byte)
    (p : Half) : fsmStep c (.wire (c.kind .error) fb p) s = fsmStep c .timeout s := by
  rcases h with h | h | h | h
  · rw [fsmStep_wire_resettingHardware c _ _ _ h, if_neg (kind_ne_kind hc (by decide)), if_pos rfl,
      fsmStep_timeout_resettingHardware c h]
  · rw [fsmStep_wire_gettingVersion c _ _ _ h, if_neg (kind_ne_kind hc (by decide)), if_pos rfl,
      fsmStep_timeout_gettingVersion c h]
  · rw [fsmStep_wire_checkingUsb c _ _ _ h, if_neg (kind_ne_kind hc (by decide)), if_pos rfl,
      fsmStep_timeout_checkingUsb c h]
  · rw [fsmStep_wire_checkingSd c _ _ _ h, if_neg (kind_ne_kind hc (by decide)), if_pos rfl,
      fsmStep_timeout_checkingSd c h]

/-! ## The handlers -/

/-- Settles O39. -/
theorem resettingHardwareHandler : Obligations.ResettingHardwareHandler := by
  intro c s hc h
  refine ⟨fsmStep_enter_entry c (by rw [h]; rfl), fun fb p => ?_, fun fb p => ⟨?_, ?_⟩, fun k fb p hinit herror => ?_⟩
  · rw [fsmStep_wire_resettingHardware c _ _ _ h, if_pos rfl, goto_entry c s _ (by simp [h]) rfl]
    rfl
  · exact (fsmStep_error_eq_timeout hc (by simp [probing, h]) fb p).symm
  · rw [fsmStep_timeout_resettingHardware c h, finish_eq c s _ (by simp [h])]
    rfl
  · rw [fsmStep_wire_resettingHardware c _ _ _ h, if_neg hinit, if_neg herror]

/-- Settles O40: the reply, the TIMEOUT and the ERROR are one goto. -/
theorem gettingVersionHandler : Obligations.GettingVersionHandler := by
  intro c s hc h
  have hgoto := goto_entry c s .checkingUsbFileCount (by simp [h]) rfl
  refine ⟨fsmStep_enter_entry c (by rw [h]; rfl), fun fb p => ?_, fun fb p => ⟨?_, ?_⟩, fun k fb p hversion herror => ?_⟩
  · rw [fsmStep_versionReply c fb p h, hgoto]
    rfl
  · exact (fsmStep_error_eq_timeout hc (by simp [probing, h]) fb p).symm
  · rw [fsmStep_timeout_gettingVersion c h, hgoto]
    rfl
  · rw [fsmStep_wire_gettingVersion c _ _ _ h, if_neg hversion, if_neg herror]

/-- Settles O41: a count of 0, the TIMEOUT and the ERROR are one goto; another count is recorded on the way. -/
theorem checkingUsbFileCountHandler : Obligations.CheckingUsbFileCountHandler := by
  intro c s hc h
  have hgoto := goto_entry c s .checkingSdFileCount (by simp [h]) rfl
  refine ⟨fsmStep_enter_entry c (by rw [h]; rfl), fun fb n hn => ?_, fun fb => ?_, fun fb p => ⟨?_, ?_⟩,
    fun k fb p hcount herror => ?_⟩
  · rw [fsmStep_wire_checkingUsb c _ _ _ h, if_pos rfl, if_neg hn,
      goto_entry c (s.setFileCount n) .selectingUsb (by simp [h]) rfl]
    rfl
  · rw [fsmStep_wire_checkingUsb c _ _ _ h, if_pos rfl, if_pos rfl, hgoto]
    rfl
  · exact (fsmStep_error_eq_timeout hc (by simp [probing, h]) fb p).symm
  · rw [fsmStep_timeout_checkingUsb c h, hgoto]
    rfl
  · rw [fsmStep_wire_checkingUsb c _ _ _ h, if_neg hcount, if_neg herror]

/-- Settles O42: a count of 0, the TIMEOUT and the ERROR are one finish; another count is recorded on the way. -/
theorem checkingSdFileCountHandler : Obligations.CheckingSdFileCountHandler := by
  intro c s hc h
  have hfinish := finish_eq c s .noSource (by simp [h])
  refine ⟨fsmStep_enter_entry c (by rw [h]; rfl), fun fb n hn => ?_, fun fb => ?_, fun fb p => ⟨?_, ?_⟩,
    fun k fb p hcount herror => ?_⟩
  · rw [fsmStep_wire_checkingSd c _ _ _ h, if_pos rfl, if_neg hn,
      goto_entry c (s.setFileCount n) .selectingSd (by simp [h]) rfl]
    rfl
  · rw [fsmStep_wire_checkingSd c _ _ _ h, if_pos rfl, if_pos rfl, hfinish]
    rfl
  · exact (fsmStep_error_eq_timeout hc (by simp [probing, h]) fb p).symm
  · rw [fsmStep_timeout_checkingSd c h, hfinish]
    rfl
  · rw [fsmStep_wire_checkingSd c _ _ _ h, if_neg hcount, if_neg herror]

/-- Settles O43: both selecting states by the rules of a selecting state, at their device. -/
theorem selectingStatesHandler : Obligations.SelectingStatesHandler := by
  refine fun c s _ => ⟨fun h => ?_, fun h => ?_⟩
  · have hdev : selectedDevice s.fsmState = some .usb := by rw [h]; rfl
    exact ⟨fsmStep_enter_entry c (by rw [h]; rfl), fsmStep_ack_selecting c hdev,
      fun _ fb p hk => fsmStep_wire_selecting_ignored c hdev hk fb p, fsmStep_timeout_ignored c (.inl h),
      tickTimer_timeout_ignored c (.inl h)⟩
  · have hdev : selectedDevice s.fsmState = some .sd := by rw [h]; rfl
    exact ⟨fsmStep_enter_entry c (by rw [h]; rfl), fsmStep_ack_selecting c hdev,
      fun _ fb p hk => fsmStep_wire_selecting_ignored c hdev hk fb p, fsmStep_timeout_ignored c (.inr (.inl h)),
      tickTimer_timeout_ignored c (.inr (.inl h))⟩

/-- Settles O44: the handler does not test the count, so 0 is a count like any other. -/
theorem checkingFolderCountHandler : Obligations.CheckingFolderCountHandler := by
  intro c s _ h
  refine ⟨fsmStep_enter_entry c (by rw [h]; rfl), fun fb n => ?_, fun k fb p hk => ?_,
    fsmStep_timeout_ignored c (.inr (.inr h))⟩
  · rw [fsmStep_wire_checkingFolder c _ _ _ h, if_pos rfl, finish_eq c (s.setFolderCount n) _ (by simp [h])]
    rfl
  · rw [fsmStep_wire_checkingFolder c _ _ _ h, if_neg hk]

end Sys2Proof.Machine
end

section
/-! How one operation can move the FSM (R263, R265, R448): by one FSM_STEP, on the frame that END completes or on the
TIMEOUT of an expiry, or not at all. -/

namespace Sys2Proof.Machine

section
variable (c : Config) (s : State)

/-- A dispatch moves the FSM by one FSM_STEP on the frame's wire event (R212), which in NONE does nothing (R261). -/
@[simp] theorem dispatchFrame_fsmState (fr : FrameRecord) :
    (dispatchFrame c fr s).fsmState = (fsmStep c (.wire fr.kind fr.fb fr.param) s).fsmState := by
  by_cases h : s.fsmState = .none
  · rw [dispatchFrame_idle c s fr h, fsmStep_none c h]
  · rw [dispatchFrame_active c s fr h, State.sinkEmitAll_fsmState]

@[simp] theorem dispatchFrame_result (fr : FrameRecord) :
    (dispatchFrame c fr s).result = (fsmStep c (.wire fr.kind fr.fb fr.param) s).result := by
  by_cases h : s.fsmState = .none
  · rw [dispatchFrame_idle c s fr h, fsmStep_none c h]
  · rw [dispatchFrame_active c s fr h, State.sinkEmitAll_result]

@[simp] theorem dispatchInvalid_fsmState (fr : FrameRecord) : (dispatchInvalid fr s).fsmState = s.fsmState := by
  unfold dispatchInvalid
  cases fr.chk <;> rfl

@[simp] theorem dispatchTimeout_fsmState : (dispatchTimeout c s).fsmState = (fsmStep c .timeout s).fsmState := by
  by_cases h : s.fsmState = .none
  · rw [dispatchTimeout_idle c h, fsmStep_none c h, State.sinkEmit_fsmState]
  · rw [dispatchTimeout_active c h, State.sinkEmit_fsmState]

/-- COMPLETE leaves the FSM to the dispatch of a valid frame (R149, R213). -/
theorem complete_moves_fsm (fr : FrameRecord) :
    (complete c fr s).fsmState = s.fsmState ∨
    ((complete c fr s).fsmState = (fsmStep c (.wire fr.kind fr.fb fr.param) s).fsmState ∧
      (complete c fr s).result = (fsmStep c (.wire fr.kind fr.fb fr.param) s).result) := by
  unfold complete
  split_ifs
  · exact .inr ⟨by simp, by simp⟩
  · exact .inl (by simp)

end

/-- `t` comes of `s` by the FSM taking the frame that END completes (R145, R146, R212). `u` is `s` with the parser moved
on. -/
def CompletedFrameMoves (c : Config) (s t : State) : Prop :=
  (s.rxCur = .at7 ∨ s.rxCur = .at9) ∧
  ∃ (u : State) (fb : Byte) (p : Half), u.fsmState = s.fsmState ∧
    t.fsmState = (fsmStep c (.wire s.rxBuf.kind fb p) u).fsmState ∧
    t.result = (fsmStep c (.wire s.rxBuf.kind fb p) u).result

/-- `t` comes of `s` by the FSM taking the TIMEOUT of an expiry (R185, R214). `u` is `s` disarmed. -/
def TimeoutMoves (c : Config) (s t : State) : Prop :=
  ∃ u : State, u.fsmState = s.fsmState ∧ t.fsmState = (fsmStep c .timeout u).fsmState

theorem feedByte_moves_fsm (c : Config) (s : State) (b : Byte) :
    (feedByte c b s).fsmState = s.fsmState ∨ b = endByte ∧ CompletedFrameMoves c s (feedByte c b s) := by
  rcases feedByte_cases c s b with ⟨cur, e⟩ | e | ⟨hcur, hb, e⟩ | ⟨hcur, hb, e⟩ <;> rw [e]
  · exact .inl rfl
  · exact .inl rfl
  · exact (complete_moves_fsm c (s.setRxCur .at0) (shortRecord s.rxBuf)).imp_right fun hmoves =>
      ⟨hb, .inl hcur, s.setRxCur .at0, _, _, rfl, hmoves⟩
  · exact (complete_moves_fsm c (s.setRxCur .at0) (fullRecord s.rxBuf)).imp_right fun hmoves =>
      ⟨hb, .inr hcur, s.setRxCur .at0, _, _, rfl, hmoves⟩

/-- Everything a FEED, SEND or TICK of this hardware can do to the FSM. -/
theorem portOp_moves_fsm {i : Instr} {s t : State} (hm : msgFrame? i = none) (hpor : i ≠ .por) (hreset : i ≠ .reset)
    (he : exec i s = .next t) :
    t.fsmState = s.fsmState ∨ (i = .feed endByte ∧ CompletedFrameMoves hardware s t) ∨ TimeoutMoves hardware s t := by
  rcases portOp_of_not_message i hm with rfl | ⟨b, rfl⟩ | ⟨fb, k, p, rfl⟩ | rfl | rfl
  · exact absurd rfl hpor
  · obtain rfl := Host.Outcome.next.inj ((exec_feed b s).symm.trans he)
    rcases feedByte_moves_fsm hardware s.clearOut b with hsame | ⟨rfl, hmoves⟩
    · exact .inl hsame
    · exact .inr (.inl ⟨rfl, hmoves⟩)
  · obtain rfl := Host.Outcome.next.inj he
    exact .inl rfl
  · obtain rfl := Host.Outcome.next.inj ((exec_tick s).symm.trans he)
    split_ifs
    · exact .inr (.inr ⟨s.clearOut.cancel, rfl, dispatchTimeout_fsmState hardware s.clearOut.cancel⟩)
    · exact .inl rfl
  · exact absurd rfl hreset

/-! ## The transition graph -/

theorem fsmEdge_self (x : FsmState) : fsmEdge x x = true := by cases x <;> rfl

/-- FSM_STEP on an event that is not ENTER follows one edge of R263, or stays. -/
theorem fsmEdge_fsmStep (c : Config) (s : State) (ev : FsmEvent) (hev : ev ≠ .enter) :
    fsmEdge s.fsmState (fsmStep c ev s).fsmState = true := by
  rcases fsmStep_cases c s ev hev with e | ⟨hs, e⟩ | ⟨hs, e⟩ | ⟨hs, e⟩ | ⟨hs, e⟩ | ⟨hs, _, e⟩ | ⟨hs, e⟩ |
    ⟨hs, _, e⟩ | ⟨hs, e⟩ | ⟨hs, e⟩ | ⟨hs, e⟩ <;> rw [e]
  · exact fsmEdge_self _
  all_goals simp [hs, fsmEdge]

/-- Settles O45: POR and RESET write FSM_STATE; every other port operation is at most one FSM_STEP. -/
theorem oneOperationFollowsTheTransitionGraph : Obligations.OneOperationFollowsTheTransitionGraph := by
  intro i s t hm he
  refine ⟨?_, ?_, fun hpor hreset => ?_⟩
  · rintro rfl
    obtain rfl := Host.Outcome.next.inj he
    rfl
  · rintro rfl
    obtain rfl := Host.Outcome.next.inj ((resetRestartsBringup s).symm.trans he)
    rfl
  · rcases portOp_moves_fsm hm hpor hreset he with hsame | ⟨-, -, u, fb, p, hu, hfsm, -⟩ | ⟨u, hu, hfsm⟩
    · rw [hsame]
      exact fsmEdge_self _
    · rw [hfsm, ← hu]
      exact fsmEdge_fsmStep hardware u _ (by simp)
    · rw [hfsm, ← hu]
      exact fsmEdge_fsmStep hardware u _ (by simp)

/-! ## The states that wait for one reply -/

section
variable (c : Config) {s : State} {b fb : Byte} {p : Half}

/-- A wire event that moves a selecting state is an ACK (R258, R259). -/
theorem fsmStep_wire_leaves_selecting (h : s.fsmState = .selectingUsb ∨ s.fsmState = .selectingSd)
    (hmoved : (fsmStep c (.wire b fb p) s).fsmState ≠ s.fsmState) :
    b = c.kind .ack ∧ (fsmStep c (.wire b fb p) s).fsmState = .checkingFolderCount := by
  obtain ⟨d, hdev⟩ : ∃ d, selectedDevice s.fsmState = some d := by
    rcases h with h | h <;> rw [h]
    · exact ⟨.usb, rfl⟩
    · exact ⟨.sd, rfl⟩
  by_cases hb : b = c.kind .ack
  · rw [fsmStep_wire_selecting c hdev, if_pos hb]
    exact ⟨hb, goto_fsmState c _ _⟩
  · exact absurd (congrArg State.fsmState (fsmStep_wire_selecting_ignored c hdev hb fb p)) hmoved

/-- A wire event that moves CHECKING_FOLDER_COUNT is the folder count, and ends bring-up READY (R260). -/
theorem fsmStep_wire_leaves_checkingFolder (h : s.fsmState = .checkingFolderCount)
    (hmoved : (fsmStep c (.wire b fb p) s).fsmState ≠ s.fsmState) :
    b = c.kind .qFolderCount ∧ (fsmStep c (.wire b fb p) s).fsmState = .none ∧
      (fsmStep c (.wire b fb p) s).result = .ready := by
  rw [fsmStep_wire_checkingFolder c b fb p h] at hmoved ⊢
  by_cases hb : b = c.kind .qFolderCount
  · rw [if_pos hb]
    exact ⟨hb, finish_fsmState c _ _, finish_result c _ _⟩
  · rw [if_neg hb] at hmoved
    exact absurd rfl hmoved

end

/-- States 5, 6 and 7 ignore TIMEOUT, so only a completed frame moves them (R265). -/
theorem portOp_leaves_waiting {i : Instr} {s t : State} (hm : msgFrame? i = none) (hpor : i ≠ .por)
    (hreset : i ≠ .reset) (he : exec i s = .next t) (hmoved : t.fsmState ≠ s.fsmState)
    (h : s.fsmState = .selectingUsb ∨ s.fsmState = .selectingSd ∨ s.fsmState = .checkingFolderCount) :
    i = .feed endByte ∧ CompletedFrameMoves hardware s t := by
  rcases portOp_moves_fsm hm hpor hreset he with hsame | hframe | ⟨u, hu, hfsm⟩
  · exact absurd hsame hmoved
  · exact hframe
  · rw [fsmStep_timeout_ignored hardware (hu.symm ▸ h), hu] at hfsm
    exact absurd hfsm hmoved

/-- Settles O46: the completed frame's wire event moved the FSM, so its kind is the one the state waits for. -/
theorem onlyAnAckLeavesASelectingState : Obligations.OnlyAnAckLeavesASelectingState := by
  intro i s t hm he hmoved hpor hreset
  refine ⟨fun h => ?_, fun h => ?_⟩
  · obtain ⟨hi, hcur, u, fb, p, hu, hfsm, -⟩ :=
      portOp_leaves_waiting hm hpor hreset he hmoved (h.imp_right .inl)
    rw [hfsm, ← hu] at hmoved
    obtain ⟨hkind, hnext⟩ := fsmStep_wire_leaves_selecting hardware (hu.symm ▸ h) hmoved
    exact ⟨hi, hcur, hkind, hfsm.trans hnext⟩
  · obtain ⟨hi, hcur, u, fb, p, hu, hfsm, hres⟩ :=
      portOp_leaves_waiting hm hpor hreset he hmoved (.inr (.inr h))
    rw [hfsm, ← hu] at hmoved
    obtain ⟨hkind, hnext, hready⟩ := fsmStep_wire_leaves_checkingFolder hardware (hu.trans h) hmoved
    exact ⟨hi, hcur, hkind, hfsm.trans hnext, hres.trans hready⟩

end Sys2Proof.Machine
end

section
/-! The kinds that only report (R330 to R334): devices inserted and removed, files finished. -/

namespace Sys2Proof.Machine

/-- One notification per listed set bit of a device mask, in ascending bit order (R330, R331). -/
theorem map_maskDevices (note : Dev3 → Notification) (param : Half) :
    (maskDevices param).map note =
      (if param.getLsbD 0 then [note .usb] else []) ++ (if param.getLsbD 1 then [note .sd] else []) ++
        (if param.getLsbD 2 then [note .aux] else []) := by
  simp only [maskDevices, List.map_append, apply_ite (List.map note), List.map_cons, List.map_nil]

/-- Settles O32: no handler waits for any of these kinds and none is a reply, so a row's notifications are all. -/
theorem deviceAndFileNotifications : Obligations.DeviceAndFileNotifications := by
  intro fb param tail s hs m hm ht
  obtain ⟨hframe, hfsm, hreply, hnotes⟩ : msgFrame? m.1 = some ⟨m.2.1, fb, param, tail⟩ ∧ m.2.1 ∉ fsmKinds ∧
      m.2.1 ∉ replyKindList ∧ kindNotifications param m.2.1 = m.2.2 := by
    fin_cases hm
    · exact ⟨rfl, by simp [fsmKinds], by simp [replyKindList], map_maskDevices .deviceInserted param⟩
    · exact ⟨rfl, by simp [fsmKinds], by simp [replyKindList], map_maskDevices .deviceRemoved param⟩
    all_goals exact ⟨rfl, by simp [fsmKinds], by simp [replyKindList], rfl⟩
  rw [exec_message_notifies hframe hs hfsm hreply ht, hnotes]
  rfl

end Sys2Proof.Machine
end

section
/-! The host request surface (R380 to R385): the parameters the calls compute, and each call as a command, a query or
RESET. -/

namespace Sys2Proof.Machine

section
variable (c : Config)

/-! ## One call -/

theorem hostOp_setVolume (v : Int) :
    hostOp c (.setVolume v) = some (.send true (c.kind .volume) (BitVec.ofInt 16 (clampVol c v))) := rfl

theorem hostCallInputs_some {call : HostCall} {i : Instr} (h : hostOp c call = some i) (t : Nat) :
    hostCallInputs c t call = [⟨t, encode c i⟩] := by
  simp only [hostCallInputs, h]

theorem hostCallInputs_none {call : HostCall} (h : hostOp c call = none) (t : Nat) :
    hostCallInputs c t call = [] := by
  simp only [hostCallInputs, h]

/-! ## The volume -/

/-- R381's three cases as one bound from each side. -/
theorem clampVol_eq_max_min (v : Int) : clampVol c v = max 0 (min (c.volMax : Int) v) := by
  unfold clampVol
  split_ifs <;> omega

/-- Volumes that clamp to the same value are sent as the same operation. -/
theorem hostOp_setVolume_congr {v w : Int} (h : clampVol c v = clampVol c w) :
    hostOp c (.setVolume v) = hostOp c (.setVolume w) := by
  rw [hostOp_setVolume, hostOp_setVolume, h]

/-! ## The track -/

/-- The small encoding, with R382's shift and or as arithmetic. -/
theorem hostOp_playTrack_small (folder : Nat) {track : Nat} (ht : track < 256) :
    hostOp c (.playTrack folder track) =
      some (.send true (c.kind .playFromFolder) (BitVec.ofNat 16 (folder * 256 + track))) := by
  have hpack : folder <<< 8 ||| track = folder * 256 + track := by
    rw [← Nat.shiftLeft_add_eq_or_of_lt ht, Nat.shiftLeft_eq]
  simp only [hostOp, playTrack, command, fbCmd, if_pos ht, hpack]

/-- The big encoding, with R382's shift and or as arithmetic. -/
theorem hostOp_playTrack_big {folder track : Nat} (hsmall : 256 ≤ track) (hf : folder < 16) (ht : track ≤ 3000) :
    hostOp c (.playTrack folder track) =
      some (.send true (c.kind .playFromBigFolder) (BitVec.ofNat 16 (folder * 4096 + track))) := by
  have hpack : folder <<< 12 ||| track = folder * 4096 + track := by
    rw [← Nat.shiftLeft_add_eq_or_of_lt (by omega), Nat.shiftLeft_eq]
  simp only [hostOp, playTrack, command, fbCmd, if_neg (Nat.not_lt.2 hsmall), if_pos (And.intro hf ht), hpack]

/-- Outside both ranges there is no operation (R384). -/
theorem hostOp_playTrack_outOfRange {folder track : Nat} (hsmall : 256 ≤ track)
    (hbig : 16 ≤ folder ∨ 3000 < track) : hostOp c (.playTrack folder track) = none := by
  have hrange : ¬ (folder < 16 ∧ track ≤ 3000) := by omega
  simp only [hostOp, playTrack, if_neg (Nat.not_lt.2 hsmall), if_neg hrange]

/-- Whatever playTrack issues is one of its two commands. -/
theorem playTrack_eq_some {folder track : Nat} {i : Instr} (h : playTrack c folder track = some i) :
    ∃ k p, (k = .playFromFolder ∨ k = .playFromBigFolder) ∧ command c k p = some i := by
  unfold playTrack at h
  split_ifs at h
  · exact ⟨_, _, .inl rfl, h⟩
  · exact ⟨_, _, .inr rfl, h⟩

/-! ## The feedback policy -/

theorem command_eq_some {k : Kind} {p : Half} {i : Instr} (h : command c k p = some i) : i = .send true (c.kind k) p :=
  (Option.some.inj h).symm

theorem query_eq_some {k : Kind} {p : Half} {i : Instr} (h : query c k p = some i) : i = .send false (c.kind k) p :=
  (Option.some.inj h).symm

/-- The kinds of the host's commands: all of R310 to R325 but RESET's, for which the host has the operation. -/
def hostCommandKinds : List Kind :=
  [.next, .previous, .volume, .equalizer, .loop, .selectSource, .sleep, .wake, .play, .pause, .playFromFolder,
   .playFromBigFolder, .stop, .random, .dacEnable]

/-- The kinds of the host's queries (R340 to R352). -/
def hostQueryKinds : List Kind :=
  [.qStatus, .qVolume, .qEqualizer, .qSequence, .qFirmwareVersion, .qFileCountUsb, .qFileCountSd, .qFileCountFlash,
   .qCurrentFileUsb, .qCurrentFileSd, .qCurrentFileFlash, .qFolderTrackCount, .qFolderCount]

/-- What a host call can become: RESET, a command, or a query with the parameter of R385. -/
theorem hostOp_cases {call : HostCall} {i : Instr} (h : hostOp c call = some i) :
    (i = .reset ∧ call = .reset) ∨
    (∃ k ∈ hostCommandKinds, ∃ p, i = .send true (c.kind k) p) ∨
    ∃ k ∈ hostQueryKinds, ∃ p, (p = 0 ∨ k = .qFolderTrackCount) ∧ i = .send false (c.kind k) p := by
  have commands {k p} (hi : command c k p = some i) (hk : k ∈ hostCommandKinds) :
      ∃ k ∈ hostCommandKinds, ∃ p, i = .send true (c.kind k) p := ⟨k, hk, p, command_eq_some c hi⟩
  have queries {k p} (hi : query c k p = some i) (hk : k ∈ hostQueryKinds) (hp : p = 0 ∨ k = .qFolderTrackCount) :
      ∃ k ∈ hostQueryKinds, ∃ p, (p = 0 ∨ k = .qFolderTrackCount) ∧ i = .send false (c.kind k) p :=
    ⟨k, hk, p, hp, query_eq_some c hi⟩
  cases call
  case reset => exact .inl ⟨(Option.some.inj h).symm, rfl⟩
  case playTrack folder track =>
    obtain ⟨k, p, rfl | rfl, hi⟩ := playTrack_eq_some c h
    · exact .inr (.inl (commands hi (by decide)))
    · exact .inr (.inl (commands hi (by decide)))
  case queryFileCount d => cases d <;> exact .inr (.inr (queries h (by decide) (.inl rfl)))
  case queryCurrentFile d => cases d <;> exact .inr (.inr (queries h (by decide) (.inl rfl)))
  case queryFolderTrackCount f => exact .inr (.inr (queries h (by decide) (.inr rfl)))
  case queryStatus | queryVolume | queryEqualizer | querySequence | queryFirmwareVersion | queryFolderCount =>
    exact .inr (.inr (queries h (by decide) (.inl rfl)))
  case next | previous | play | pause | stop | loop | random | setVolume | setEqualizer | sleep | wake | enableDAC |
      selectSource =>
    exact .inr (.inl (commands h (by decide)))

end

/-! ## The statements -/

/-- Settles O57: the parameter is the clamped volume, whose range fits 16 bits. -/
theorem volumeIsClampedBeforeItIsSent : Obligations.VolumeIsClampedBeforeItIsSent := by
  have hclamp (v : Int) : clampVol hardware v = max 0 (min 30 v) := clampVol_eq_max_min hardware v
  refine ⟨fun v => ⟨_, hostOp_setVolume hardware v, fun hneg => ?_, fun hbig => ?_, fun h0 h30 => ?_⟩,
    hostOp_setVolume_congr hardware (by decide), hostOp_setVolume_congr hardware (by decide)⟩
  · have h : clampVol hardware v = 0 := by rw [hclamp]; omega
    rw [h]; rfl
  · have h : clampVol hardware v = 30 := by rw [hclamp]; omega
    rw [h]; rfl
  · have h : clampVol hardware v = v := by rw [hclamp]; omega
    rw [h, BitVec.toNat_ofInt]
    omega

/-- Settles O58, from the three ranges of playTrack. -/
theorem trackAddressingPicksOneEncoding : Obligations.TrackAddressingPicksOneEncoding := by
  intro folder track
  refine ⟨fun ht => ?_, fun hsmall hf ht => ?_, fun hsmall hbig => ?_⟩
  · exact ⟨_, hostOp_playTrack_small hardware folder ht, BitVec.toNat_ofNat _ _⟩
  · refine ⟨_, hostOp_playTrack_big hardware hsmall hf ht, ?_⟩
    rw [BitVec.toNat_ofNat]
    exact Nat.mod_eq_of_lt (by omega)
  · have hnone := hostOp_playTrack_outOfRange hardware hsmall hbig
    exact ⟨hnone, hostCallInputs_none hardware hnone⟩

/-- Settles O59: the rows are those of `hostOp`, and a kind's code stands among the codes of its list. -/
theorem hostCallsFollowTheFeedbackPolicy : Obligations.HostCallsFollowTheFeedbackPolicy := by
  intro c
  refine ⟨fun row hrow => ?_, fun _ => rfl, fun v => ?_, fun _ => rfl, fun _ => rfl, fun _ => rfl,
    fun row hrow => ?_, fun _ => rfl, rfl, fun _ _ t h => hostCallInputs_some c h t, fun call i h => ?_⟩
  · fin_cases hrow <;> rfl
  · rw [hostOp_setVolume, clampVol_eq_max_min]
  · fin_cases hrow <;> rfl
  · rcases hostOp_cases c h with hreset | ⟨k, hk, p, hi⟩ | ⟨k, hk, p, hp, hi⟩
    · exact .inl hreset
    · have hcode : c.kind k ∈ hostCommandKinds.map c.kind := List.mem_map_of_mem hk
      exact .inr ⟨true, c.kind k, p, hi, .inl ⟨rfl, by
        simpa only [hostCommandKinds, List.map_cons, List.map_nil, List.mem_cons, List.not_mem_nil, or_false]
          using hcode⟩⟩
    · have hcode : c.kind k ∈ hostQueryKinds.map c.kind := List.mem_map_of_mem hk
      exact .inr ⟨false, c.kind k, p, hi, .inr ⟨rfl, hp.imp_right (congrArg c.kind), by
        simpa only [hostQueryKinds, List.map_cons, List.map_nil, List.mem_cons, List.not_mem_nil, or_false]
          using hcode⟩⟩

end Sys2Proof.Machine
end

section
/-! The state after reset (R440), the block with nothing presented (R441), and the request during reset that shortens the
wait (R444). -/

namespace Sys2Proof.Machine

/-! ## Power-on reset -/

/-- POR leaves the state after reset, with the input ports as the host holds them (R440, R48). -/
theorem exec_por (s : State) : exec .por s = .next { State.reset with now := s.now, pending := s.pending } := rfl

/-- The state after reset is one that POR leaves, so what holds after every POR holds at reset (R440). -/
theorem powerOn_reset : State.reset.powerOn = State.reset := rfl

section
variable {s : State}

/-- The code of FSM_STATE is what the status outputs show (R38, R46). -/
theorem status_state_of_fsmState {x : FsmState} (h : s.fsmState = x) : s.status.state = fsmStateCode x :=
  congrArg fsmStateCode h

/-- The code of RESULT is what the status outputs show (R39, R46). -/
theorem status_result_of_result {r : BringupResult} (h : s.result = r) : s.status.result = resultCode r :=
  congrArg resultCode h

/-- A RESULT of NOT_STARTED reports nothing (R39). -/
theorem resultReported_of_notStarted (h : s.result = .notStarted) : ResultReported s := fun r hr =>
  absurd (hr.symm.trans h) (endResultValue_ne_notStarted r)

end

/-- Settles O10: POR leaves `State.reset` but for the ports, and each status output is a code or a register. -/
theorem porLeavesTheResetValues : Obligations.PorLeavesTheResetValues := by
  refine ⟨exec_por, fun s t ht => ?_, fun s => ?_, exec_por State.reset⟩
  · obtain rfl := Host.Outcome.next.inj ((exec_por s).symm.trans ht)
    rfl
  · exact ⟨status_state_of_fsmState, status_state_of_fsmState, status_state_of_fsmState, status_state_of_fsmState,
      status_state_of_fsmState, status_state_of_fsmState, status_state_of_fsmState, status_state_of_fsmState,
      status_result_of_result, status_result_of_result, status_result_of_result, status_result_of_result,
      status_result_of_result, rfl, rfl, rfl, rfl⟩

/-- Settles O50: POR leaves the registers consistent, and both times are 0. -/
theorem bringupRegistersConsistentAtReset : Obligations.BringupRegistersConsistentAtReset :=
  ⟨powerOn_reset ▸ bringupConsistent_powerOn hardware State.reset, Nat.two_pow_pos _, Nat.two_pow_pos _⟩

/-- Settles O52: POR leaves no frame and no deadline. -/
theorem transmitLogFramedAtReset : Obligations.TransmitLogFramedAtReset :=
  show TxFramed hardware State.reset from powerOn_reset ▸ txFramed_powerOn hardware State.reset

/-- Settles O54: at reset RESULT is NOT_STARTED. -/
theorem resultReportedAtReset : Obligations.ResultReportedAtReset := resultReported_of_notStarted rfl

/-! ## Nothing presented -/

/-- With nothing presented the block waits, whatever its parameters and whatever performs the instructions (R441). -/
theorem stepBy_of_nothing_presented (c : Config) (run : Instr → State → Host.Outcome State Fault Refusal) {s : State}
    (h : s.pending = []) : stepBy c run s = .next s := by
  have hidle : fetch c s = .idle := by rw [fetch, h]
  rw [stepBy, hidle]

/-- Settles O6. -/
theorem stepWithNothingPresentedWaits : Obligations.StepWithNothingPresentedWaits := fun _ h =>
  stepBy_of_nothing_presented hardware exec h

/-! ## A request while the module resets -/

/-- A deadline armed at `t0` has expired throughout its window (R180, R190). -/
theorem expired_in_window (c : Config) {s : State} {t0 d : Nat} (hd : d < 2 ^ (c.clkW - 1)) (harm : s.tmrArmed = true)
    (hdeadline : s.tmrDeadline = timeAfter c t0 d) (hlo : (d : Int) ≤ ((s.now : Int) - t0) % 2 ^ c.clkW)
    (hhi : ((s.now : Int) - t0) % 2 ^ c.clkW ≤ d + 2 ^ (c.clkW - 1) - 1) : s.expired c = true := by
  rw [expired_iff, hdeadline, elapsed_timeAfter_lt_iff c _ _ hd]
  exact ⟨harm, hlo, hhi⟩

/-- An expiry in RESETTING_HARDWARE ends bring-up FAILED, with no deadline armed (R254). -/
theorem exec_tick_expired_resettingHardware {s v : State} (h : s.fsmState = .resettingHardware)
    (hexp : s.expired hardware = true) (hv : exec .tick s = .next v) :
    v.fsmState = .none ∧ v.result = .failed ∧ v.tmrArmed = false := by
  rw [exec_tick_of_expired hexp, dispatchTimeout_of_finish hardware (s := s.clearOut.cancel) (by simp [h])
    (fsmStep_timeout_resettingHardware hardware h)] at hv
  obtain rfl := Host.Outcome.next.inj hv
  exact ⟨rfl, rfl, rfl⟩

/-- Settles O47: SEND keeps the FSM state and replaces its deadline by one T_DEFAULT away, which the TICK finds expired. -/
theorem sendDuringResetShortensTheWait : Obligations.SendDuringResetShortensTheWait := by
  intro fb kind param s u v t hreset hlo hhi hu hv
  obtain ⟨hfsm, harm, hdeadline⟩ : u.fsmState = .resettingHardware ∧ u.tmrArmed = true ∧
      u.tmrDeadline = timeAfter hardware s.now hardware.tDefault := by
    obtain rfl := Host.Outcome.next.inj ((sendTransmitsAndArms fb kind param s).1.symm.trans hu)
    exact ⟨hreset, rfl, rfl⟩
  have hexp : ({ u with now := t } : State).expired hardware = true :=
    expired_in_window hardware hardware_valid.tDefault_lt harm hdeadline hlo hhi
  exact exec_tick_expired_resettingHardware (s := { u with now := t }) hfsm hexp hv

end Sys2Proof.Machine
end
